-- ==== Sys2Proof/Word.lean ====
section
/-! DEFINITION. The words of the block: the per-clock command word (R74), the selector words of the arm tables
(R84) and the elapsed-tick register (R8, R26). Bit 0 is the least significant (R10). -/

namespace Sys2Proof

/-- The command word of one clock cycle: `rst`, `step_en`, `tick_set`, `btn_raw` in bits 3 to 0 (R74). -/
abbrev CmdWord := BitVec 4

/-- The selector word of `DEB(s)`: `btn_state`, `s`, `eqT`, `nxT` in bits 4 to 0 (R84). -/
abbrev DebWord := BitVec 5

/-- The selector word of `TCK` (`tick_flag`, `dev_state`) and of `FSM` (`dev_state`, `p`), three bits each (R84). -/
abbrev ArmWord := BitVec 3

/-- The elapsed-tick register, `W_TICKS` = 32 bits (R8, R26, D10). -/
abbrev TickCount := BitVec 32

/-- The largest value of the elapsed-tick register, `2^W_TICKS - 1` (R26). -/
abbrev tickTop : Nat := 4294967295

end Sys2Proof
end

