-- ==== Sys2Proof/Config.lean ====
section
/-! DEFINITION. The build-time parameters of the block (R5, R6, R8, R9) and the free environment (R17). -/

namespace Sys2Proof

/-- `TICKS_OVERFLOW`: what the elapsed-tick counter does at its top (R9, R137, D11). -/
inductive Overflow where
  | saturate
  | wrap
  deriving DecidableEq, Repr

/-- The build-time parameters: fixed when the block is built, written by no operation (R5, R6, R9, R27). -/
structure Config where
  /-- `DEBOUNCE_THRESHOLD`, written `T`: the confidence counter's saturation and compare value (R5). -/
  debounceThreshold : Nat
  /-- `CUTDOWN_TICKS`, written `C`: the elapsed-tick counter's compare value (R6). -/
  cutdownTicks : Nat
  /-- `TICKS_OVERFLOW` (R9). -/
  overflow : Overflow
  /-- `BUZZER_INIT`: the buzzer's reset value (R9, R29). -/
  buzzerInit : Bool
  /-- `LED_INIT`: the LED's reset value (R9, R30). -/
  ledInit : Bool
  deriving DecidableEq, Repr

/-- The spec's defaults: `T` = 254, `C` = 120, `saturate`, both outputs 0 (R5, R6, R9). -/
def Config.reference : Config where
  debounceThreshold := 254
  cutdownTicks := 120
  overflow := .saturate
  buzzerInit := false
  ledInit := false

/-- `W_CONF`, the least width `w` with `2^w - 1 >= T` (R8, D9). -/
def Config.confWidth (c : Config) : Nat := c.debounceThreshold.log2 + 1

/-- The environment's free choice of command word once the words it has announced are used up: the sample
sequence, the placing of iterations, ticks and resets are free inputs (R17). No body: nothing can be
proved of its values. DESIGN CHOICE, log entry 2. -/
opaque Config.envWord : Nat → CmdWord

end Sys2Proof
end

