-- ==== Sys2Proof/Syntax.lean ====
section
/-! DEFINITION. The enumerations of the block (R23, R24), its instructions (every row of spec/opcode_table.json,
R75, R77 to R79), the formats of the table and the pseudo-commands (R83). -/

namespace Sys2Proof

/-- The debounce machine's state (R11, R23). -/
inductive BtnState where
  | unpressed
  | pressPending
  | releasePending
  | pressed
  deriving DecidableEq, Repr

/-- The device state (R11, R24). The reserved code 3 is not a value (R72). -/
inductive DevState where
  | off
  | startRunning
  | running
  deriving DecidableEq, Repr

/-- The instructions: the five commands of R75, then the arms of `DEB`, `TCK` and `FSM` (R77 to R79). -/
inductive Instr where
  /-- `RESET` (R220). -/
  | reset
  /-- `NOP` (R176). -/
  | nop
  /-- `TICK` (R130). -/
  | tick
  /-- `STEP b` (R170): `b` is the sample, `btn_raw` (R76). -/
  | step (b : Bool)
  /-- `STEPT b` (R174). -/
  | stept (b : Bool)
  /-- `DEB.UP` (R101). -/
  | debUp
  /-- `DEB.UR` (R102). -/
  | debUr
  /-- `DEB.PP` (R103). -/
  | debPp
  /-- `DEB.PRC` (R104). -/
  | debPrc
  /-- `DEB.PRB` (R105). -/
  | debPrb
  /-- `DEB.RP` (R106). -/
  | debRp
  /-- `DEB.RRN` (R107). -/
  | debRrn
  /-- `DEB.RRC` (R108). -/
  | debRrc
  /-- `DEB.L` (R109). -/
  | debL
  /-- `TCK.N` (R133). -/
  | tckN
  /-- `TCK.O` (R134). -/
  | tckO
  /-- `TCK.S` (R135). -/
  | tckS
  /-- `TCK.R` (R136). -/
  | tckR
  /-- `FSM.OFF` (R152). -/
  | fsmOff
  /-- `FSM.ARM` (R151). -/
  | fsmArm
  /-- `FSM.SR` (R153). -/
  | fsmSr
  /-- `FSM.RUN` (R154). -/
  | fsmRun
  deriving DecidableEq, Repr

/-- The formats of the opcode table: the command word and the three selector words (R74, R84). -/
inductive Format where
  | cmd
  | debArm
  | tckArm
  | fsmArm
  deriving DecidableEq, Repr

/-- The width of a format in bits (R74, R84). -/
def Format.width : Format → Nat
  | .cmd => 4
  | .debArm => 5
  | .tckArm => 3
  | .fsmArm => 3

/-- A word of one of the table's formats. -/
structure TableWord where
  format : Format
  bits : Nat
  deriving DecidableEq, Repr

/-- The pseudo-commands of the trace notation (R83). -/
inductive Pseudo where
  /-- `PRESS n`. -/
  | press (n : Nat)
  /-- `RELEASE n`. -/
  | release (n : Nat)
  /-- `WAIT n`. -/
  | wait (n : Nat)
  /-- `TICKSTEP b`. -/
  | tickStep (b : Bool)
  /-- `TICKS n`. -/
  | ticks (n : Nat)
  /-- `ARM`, for the build's `T`. -/
  | arm
  deriving DecidableEq, Repr

end Sys2Proof
end

