-- ==== Sys2Proof/WellFormed.lean ====
section
/-! DEFINITION. What is well formed: a build within the legal ranges (R5, R6, R224), a table word that fits its
format (R74, R84) and holds no reserved device-state code (R72), and an instruction (R16, R80). -/

namespace Sys2Proof

/-- The legal ranges of the build: `1 <= T` and `C <= 2^W_TICKS - 2` (R5, R6, R224). `T <= 2^W_CONF - 1` holds
of every `T`, since `W_CONF` is the least width that holds it (R8). -/
abbrev Config.Valid (c : Config) : Prop :=
  1 ≤ c.debounceThreshold ∧ c.cutdownTicks ≤ tickTop - 1

/-- The selector values that match no arm, all with `dev_state` = 3 (R72, R84). -/
def TableWord.reserved (t : TableWord) : Bool :=
  match t.format with
  | .cmd => false
  | .debArm => false
  | .tckArm => t.bits == 7
  | .fsmArm => t.bits == 6 || t.bits == 7

/-- A well-formed table word: it fits its format's width and is not reserved. -/
abbrev TableWord.WellFormed (t : TableWord) : Prop :=
  t.bits < 2 ^ t.format.width ∧ t.reserved = false

/-- Every term of `Instr` is a well-formed instruction: the one operand is a boolean and both its values are
legal (R76, R80), and the arms have no operand. -/
def Instr.wellFormed : Instr → Bool
  | .reset | .nop | .tick => true
  | .step _ | .stept _ => true
  | .debUp | .debUr | .debPp | .debPrc | .debPrb | .debRp | .debRrn | .debRrc | .debL => true
  | .tckN | .tckO | .tckS | .tckR => true
  | .fsmOff | .fsmArm | .fsmSr | .fsmRun => true

/-- A well-formed pseudo-command: its count is positive (R83). -/
def Pseudo.wellFormed : Pseudo → Bool
  | .press n | .release n | .wait n | .ticks n => 0 < n
  | .tickStep _ | .arm => true

end Sys2Proof
end

