-- ==== Sys2Proof/Decode.lean ====
section
/-! DEFINITION. Encodings: the codes of the two state enumerations (R70, R71), the fields of the command word
(R74), the decoders of the command word (R75) and of the selector words (R84), then the encoder, the rows of
spec/opcode_table.json, the trace notation (R82) and the pseudo-commands (R83). -/

namespace Sys2Proof

/-! ### State codes -/

/-- The code of `btn_state` (R70). -/
def BtnState.code : BtnState → BitVec 2
  | .unpressed => 0
  | .pressPending => 1
  | .releasePending => 2
  | .pressed => 3

/-- The value of `btn_state` with a code; all four codes are used (R70). -/
def BtnState.ofCode (c : BitVec 2) : BtnState :=
  match c.toNat with
  | 0 => .unpressed
  | 1 => .pressPending
  | 2 => .releasePending
  | _ => .pressed

/-- The code of `dev_state` (R71). -/
def DevState.code : DevState → BitVec 2
  | .off => 0
  | .startRunning => 1
  | .running => 2

/-- The value of `dev_state` with a code; code 3 is reserved and refused (R71, R72). -/
def DevState.ofCode (c : BitVec 2) : Option DevState :=
  match c.toNat with
  | 0 => some .off
  | 1 => some .startRunning
  | 2 => some .running
  | _ => none

/-! ### The command word -/

/-- Field `rst`, bit 3 (R74). -/
def cmdRst (w : CmdWord) : Bool := w.getLsbD 3

/-- Field `step_en`, bit 2 (R74). -/
def cmdStepEn (w : CmdWord) : Bool := w.getLsbD 2

/-- Field `tick_set`, bit 1 (R74). -/
def cmdTickSet (w : CmdWord) : Bool := w.getLsbD 1

/-- Field `btn_raw`, bit 0, the sample (R74, R76). -/
def cmdBtnRaw (w : CmdWord) : Bool := w.getLsbD 0

/-- The command word with given fields (R74). -/
def cmdWord (rst stepEn tickSet btnRaw : Bool) : CmdWord :=
  BitVec.ofNat 4 (8 * rst.toNat + 4 * stepEn.toNat + 2 * tickSet.toNat + btnRaw.toNat)

/-- The command a word selects: complete over all 16 words, none illegal (R75, R80). -/
def decodeCmd (w : CmdWord) : Instr :=
  if cmdRst w then .reset
  else
    match cmdStepEn w, cmdTickSet w with
    | false, false => .nop
    | false, true => .tick
    | true, false => .step (cmdBtnRaw w)
    | true, true => .stept (cmdBtnRaw w)

/-! ### The selector words -/

/-- The selector word of `DEB(s)`: `btn_state`, `s`, `eqT`, `nxT`, the first-named field high (R84). -/
def debWord (q : BtnState) (s eqT nxT : Bool) : DebWord :=
  BitVec.ofNat 5 (8 * q.code.toNat + 4 * s.toNat + 2 * eqT.toNat + nxT.toNat)

/-- The selector word of `TCK`: `tick_flag`, `dev_state` (R84). -/
def tckWord (flag : Bool) (d : DevState) : ArmWord :=
  BitVec.ofNat 3 (4 * flag.toNat + d.code.toNat)

/-- The selector word of `FSM`: `dev_state`, `p` (R84). -/
def fsmWord (d : DevState) (p : Bool) : ArmWord :=
  BitVec.ofNat 3 (2 * d.code.toNat + p.toNat)

/-- The arm a `DEB` selector word selects; every value selects exactly one (R77, R84). -/
def decodeDebArm (w : DebWord) : Instr :=
  let s := w.getLsbD 2
  let eqT := w.getLsbD 1
  let nxT := w.getLsbD 0
  match BtnState.ofCode (w.extractLsb' 3 2) with
  | .unpressed => if s then .debUp else .debUr
  | .pressPending => if s then .debPp else if eqT then .debPrc else .debPrb
  | .releasePending => if s then .debRp else if nxT then .debRrc else .debRrn
  | .pressed => .debL

/-- The arm a `TCK` selector word selects; `0xx` is `TCK.N` as a pattern, its word `011`
included (log entry 8); `111` selects none (R78, R84). -/
def decodeTckArm (w : ArmWord) : Option Instr :=
  if w.getLsbD 2 then
    match DevState.ofCode (w.extractLsb' 0 2) with
    | some .off => some .tckO
    | some .startRunning => some .tckS
    | some .running => some .tckR
    | none => none
  else some .tckN

/-- The arm an `FSM` selector word selects; `110` and `111` select none (R79, R84). -/
def decodeFsmArm (w : ArmWord) : Option Instr :=
  match DevState.ofCode (w.extractLsb' 1 2) with
  | some .off => if w.getLsbD 0 then some .fsmArm else some .fsmOff
  | some .startRunning => some .fsmSr
  | some .running => some .fsmRun
  | none => none

/-! ### Decoding any table word -/

/-- Why a table word is no instruction. -/
inductive DecodeError where
  /-- The word does not fit its format (R74, R81, R84). -/
  | tooWide
  /-- The selector holds the reserved device-state code 3 (R72, R84). -/
  | reservedDevState
  deriving DecidableEq, Repr

/-- The instruction of a table word, or why there is none: total on any word of any format. -/
def decode (t : TableWord) : Except DecodeError Instr :=
  if t.bits < 2 ^ t.format.width then
    match t.format with
    | .cmd => .ok (decodeCmd (BitVec.ofNat 4 t.bits))
    | .debArm => .ok (decodeDebArm (BitVec.ofNat 5 t.bits))
    | .tckArm =>
      match decodeTckArm (BitVec.ofNat 3 t.bits) with
      | some i => .ok i
      | none => .error .reservedDevState
    | .fsmArm =>
      match decodeFsmArm (BitVec.ofNat 3 t.bits) with
      | some i => .ok i
      | none => .error .reservedDevState
  else .error .tooWide

/-- The format a bare number of the table is read in: the command word has four bits (R74), and of the table's
formats only `deb_arm` is wider. The number alone does not name its format; DESIGN CHOICE, log entry 5. -/
def tableFormat (w : Nat) : Format := if w < 16 then .cmd else .debArm

/-- The instruction the decoder reads from the table's number `w` of `nbits` bits (log entry 5). -/
def decodeTableWord (nbits w : Nat) : Option Instr :=
  if w < 2 ^ nbits then
    match decode (TableWord.mk (tableFormat w) w) with
    | .ok i => some i
    | .error _ => none
  else none

/-! ### The encoder -/

/-- The canonical word of an instruction: ignored bits are 0 (R75, R80, R84). -/
def encode : Instr → TableWord
  | .reset => ⟨.cmd, 8⟩
  | .nop => ⟨.cmd, 0⟩
  | .tick => ⟨.cmd, 2⟩
  | .step b => ⟨.cmd, 4 + b.toNat⟩
  | .stept b => ⟨.cmd, 6 + b.toNat⟩
  | .debUp => ⟨.debArm, 4⟩
  | .debUr => ⟨.debArm, 0⟩
  | .debPp => ⟨.debArm, 12⟩
  | .debPrc => ⟨.debArm, 10⟩
  | .debPrb => ⟨.debArm, 8⟩
  | .debRp => ⟨.debArm, 20⟩
  | .debRrn => ⟨.debArm, 16⟩
  | .debRrc => ⟨.debArm, 17⟩
  | .debL => ⟨.debArm, 24⟩
  | .tckN => ⟨.tckArm, 0⟩
  | .tckO => ⟨.tckArm, 4⟩
  | .tckS => ⟨.tckArm, 5⟩
  | .tckR => ⟨.tckArm, 6⟩
  | .fsmOff => ⟨.fsmArm, 0⟩
  | .fsmArm => ⟨.fsmArm, 1⟩
  | .fsmSr => ⟨.fsmArm, 2⟩
  | .fsmRun => ⟨.fsmArm, 4⟩

/-! ### The rows of the opcode table -/

/-- A row of spec/opcode_table.json: its mnemonic and the pattern of its words. -/
structure OpcodeRow where
  mnemonic : String
  format : Format
  mask : Nat
  pattern : Nat
  deriving DecidableEq, Repr

/-- The row of an instruction, with the table's own mask and match. -/
def opcodeRow : Instr → OpcodeRow
  | .reset => ⟨"RESET", .cmd, 8, 8⟩
  | .nop => ⟨"NOP", .cmd, 14, 0⟩
  | .tick => ⟨"TICK", .cmd, 14, 2⟩
  | .step _ => ⟨"STEP", .cmd, 14, 4⟩
  | .stept _ => ⟨"STEPT", .cmd, 14, 6⟩
  | .debUp => ⟨"DEB.UP", .debArm, 28, 4⟩
  | .debUr => ⟨"DEB.UR", .debArm, 28, 0⟩
  | .debPp => ⟨"DEB.PP", .debArm, 28, 12⟩
  | .debPrc => ⟨"DEB.PRC", .debArm, 30, 10⟩
  | .debPrb => ⟨"DEB.PRB", .debArm, 30, 8⟩
  | .debRp => ⟨"DEB.RP", .debArm, 28, 20⟩
  | .debRrn => ⟨"DEB.RRN", .debArm, 29, 16⟩
  | .debRrc => ⟨"DEB.RRC", .debArm, 29, 17⟩
  | .debL => ⟨"DEB.L", .debArm, 24, 24⟩
  | .tckN => ⟨"TCK.N", .tckArm, 4, 0⟩
  | .tckO => ⟨"TCK.O", .tckArm, 7, 4⟩
  | .tckS => ⟨"TCK.S", .tckArm, 7, 5⟩
  | .tckR => ⟨"TCK.R", .tckArm, 7, 6⟩
  | .fsmOff => ⟨"FSM.OFF", .fsmArm, 7, 0⟩
  | .fsmArm => ⟨"FSM.ARM", .fsmArm, 7, 1⟩
  | .fsmSr => ⟨"FSM.SR", .fsmArm, 6, 2⟩
  | .fsmRun => ⟨"FSM.RUN", .fsmArm, 6, 4⟩

/-- A table word lies in a row: same format, and the row's fixed bits. -/
def rowMatches (r : OpcodeRow) (t : TableWord) : Bool :=
  r.format == t.format && t.bits &&& r.mask == r.pattern

/-! ### Traces and pseudo-commands -/

/-- The command word of an instruction, canonical spelling; a micro-operation's arm has none (R80, R82). -/
def commandWord (i : Instr) : Option CmdWord :=
  match (encode i).format with
  | .cmd => some (BitVec.ofNat 4 (encode i).bits)
  | .debArm | .tckArm | .fsmArm => none

/-- `n` copies of a list of commands, end to end. -/
def repeatCmds : Nat → List Instr → List Instr
  | 0, _ => []
  | n + 1, is => is ++ repeatCmds n is

/-- The expansion of a pseudo-command, for a build with threshold `T` (R83). -/
def expandPseudo (T : Nat) : Pseudo → List Instr
  | .press n => repeatCmds n [.step true]
  | .release n => repeatCmds n [.step false]
  | .wait n => repeatCmds n [.nop]
  | .tickStep b => [.tick, .step b]
  | .ticks n => repeatCmds n [.tick, .step false]
  | .arm => repeatCmds (T + 1) [.step true] ++ repeatCmds (T + 2) [.step false]

/-- The command words of a list of pseudo-commands, the trace's encoding (R82, R83). -/
def assemble (T : Nat) (ps : List Pseudo) : List CmdWord :=
  (ps.flatMap (expandPseudo T)).filterMap commandWord

/-- A command word's hexadecimal digit (R82). -/
def hexDigit (w : CmdWord) : Char := w.toNat.digitChar

end Sys2Proof
end

