-- ==== Sys2Proof/Machine/State.lean ====
section
/-! DEFINITION. The state of the machine: the block's eight elements (R20) and the model's own fields; the reasons
a step can stop; the state after reset (R35, R220). The block has no memory, and a model must not give it one (R50). -/

namespace Sys2Proof.Machine

/-- The state. The first eight fields are the block's state elements, all of them (R20); the last three are the
model's own: the build (log entry 1) and the environment's command words (log entry 2). -/
structure State where
  /-- `btn_state` (R23). -/
  btnState : BtnState
  /-- `btn_conf`, the confidence counter, 0 to `T` (R25); a natural number (R10). Log entry 7. -/
  btnConf : Nat
  /-- `dev_state` (R24). -/
  devState : DevState
  /-- `tick_flag`, the tick-pending flag (R28). -/
  tickFlag : Bool
  /-- `elapsed`, the countdown timer's counter (R26). -/
  elapsed : TickCount
  /-- `buzzer` (R29). -/
  buzzer : Bool
  /-- `led` (R30). -/
  led : Bool
  /-- `fire`, the fired state (R31). -/
  fire : Bool
  /-- The build-time parameters; no operation writes them (R27). Log entry 1. -/
  cfg : Config
  /-- The command words the environment has announced, the next one first (R82). Log entry 2. -/
  trace : List CmdWord
  /-- How many words have been drawn from the free environment (R17). Log entry 2. -/
  draws : Nat
  deriving DecidableEq, Repr

/-- The faults of the machine: none. The block raises no exception and needs no fault outcome (R190). -/
inductive Fault where
  deriving DecidableEq, Repr

/-- Why an instruction has no next state. -/
inductive Refusal where
  /-- Raised by an arm of exec whose instruction has no meaning yet. Safe. -/
  | notModelled (mnemonic : String)
  /-- Raised by every meaning when the build's `T` or `C` is outside the legal ranges: the spec gives no meaning to
  such a block and has a model refuse it (R224; 93 V3). Safe. Log entry 6. -/
  | buildOutOfRange
  /-- Raised by the meaning of a micro-operation's arm in a state that the arm's rule does not select: another arm
  is taken there, and the spec gives this one no effect (R77 to R79, R82). Safe. Log entry 3. -/
  | armNotSelected (arm : String)
  deriving DecidableEq, Repr

/-- The state after reset of a build (R35, R220), with nothing announced by the environment. -/
def State.resetOf (cfg : Config) : State where
  btnState := .unpressed
  btnConf := 0
  devState := .off
  tickFlag := false
  elapsed := 0
  buzzer := cfg.buzzerInit
  led := cfg.ledInit
  fire := false
  cfg := cfg
  trace := []
  draws := 0

/-- The state after reset of the reference build (R35, R220). -/
def State.reset : State := State.resetOf Config.reference

end Sys2Proof.Machine
end

