-- ==== Sys2Proof/Machine/Ops.lean ====
section
/-! DEFINITION. The named operations on the state: one writer per element (R20, R32), the reset of the block (R220),
the tick interrupt's one effect (R130, R195), how a meaning ends, and the reading of the next command word (R173). -/

namespace Sys2Proof.Machine

/-- `btn_state <- v`. -/
def State.setBtnState (s : State) (v : BtnState) : State := { s with btnState := v }

/-- `btn_conf <- v`. -/
def State.setBtnConf (s : State) (v : Nat) : State := { s with btnConf := v }

/-- `dev_state <- v`. -/
def State.setDevState (s : State) (v : DevState) : State := { s with devState := v }

/-- `tick_flag <- v`. -/
def State.setTickFlag (s : State) (v : Bool) : State := { s with tickFlag := v }

/-- `elapsed <- v`. -/
def State.setElapsed (s : State) (v : TickCount) : State := { s with elapsed := v }

/-- `buzzer <- v`. -/
def State.setBuzzer (s : State) (v : Bool) : State := { s with buzzer := v }

/-- `led <- v`. -/
def State.setLed (s : State) (v : Bool) : State := { s with led := v }

/-- `fire <- v`. -/
def State.setFire (s : State) (v : Bool) : State := { s with fire := v }

/-- `RESET`'s effect: all eight elements to their reset values (R220); the build and the environment's words are
no state of the block and stay. -/
def State.resetBlock (s : State) : State :=
  ((((((((s.setBtnState .unpressed).setBtnConf 0).setDevState .off).setTickFlag false).setElapsed 0).setBuzzer
    s.cfg.buzzerInit).setLed s.cfg.ledInit).setFire false)

/-- Taking the block's one interrupt, the tick: its whole effect is `tick_flag <- 1` (R130, R192). It saves nothing,
changes no mode and transfers control nowhere (R195), so there is nothing to return from (R196). -/
def State.raiseTick (s : State) : State := s.setTickFlag true

/-- How a meaning ends in the state `t`: with `t`, on a build within the legal ranges (R224). -/
def State.complete (s t : State) : Host.Outcome State Fault Refusal :=
  if s.cfg.Valid then .next t else .refused .buildOutOfRange

/-- How the meaning of a micro-operation's arm ends: with its effect `t` where its rule selects it (R77 to R79),
refused by name elsewhere (log entry 3). -/
def State.completeArm (s : State) (arm : String) (selected : Bool) (t : State) : Host.Outcome State Fault Refusal :=
  if selected then s.complete t else .refused (.armNotSelected arm)

/-- The environment announces a command word as the next one. -/
def State.present (s : State) (w : CmdWord) : State := { s with trace := w :: s.trace }

/-- The command word of the next clock edge, and the state that has used it up: the first announced word, or, where
none is left, the environment's free choice (R17, R173; log entry 2). -/
def State.readPorts (s : State) : CmdWord × State :=
  match s.trace with
  | w :: ws => (w, { s with trace := ws })
  | [] => (Config.envWord s.draws, { s with draws := s.draws + 1 })

end Sys2Proof.Machine
end

