-- ==== Sys2Proof/Machine/Flags.lean ====
section
/-! DEFINITION. The counters' next values (R103, R107, R137), the comparator and the fire bit (R139), the blinkers
(R138) and the read-and-clear of the tick flag (R132). -/

namespace Sys2Proof.Machine

/-- `min(btn_conf + 1, T)`, formed over the naturals (R10, R103, R107). -/
def nextConf (s : State) : Nat := min (s.btnConf + 1) s.cfg.debounceThreshold

/-- `eqT`: `btn_conf = T` (R77, R84). -/
def confFull (s : State) : Bool := s.btnConf == s.cfg.debounceThreshold

/-- `nxT`: `min(btn_conf + 1, T) = T` (R77, R84). -/
def confFills (s : State) : Bool := nextConf s == s.cfg.debounceThreshold

/-- `inc(e)`: one more, but at the top of the counter the value `TICKS_OVERFLOW` asks for (R137). -/
def incTicks (o : Overflow) (e : TickCount) : TickCount :=
  if e.toNat < tickTop then e + 1
  else
    match o with
    | .saturate => e
    | .wrap => 0

/-- The comparator: `elapsed > C`, unsigned and strict (R139). -/
def ticksExceed (s : State) : Bool := s.cfg.cutdownTicks < s.elapsed.toNat

/-- `if elapsed > C then fire <- 1`; `fire` keeps its value otherwise (R139). -/
def fireCheck (s : State) : State := if ticksExceed s then s.setFire true else s

/-- `buzzer <- not buzzer ; led <- not led` (R138). -/
def blink (s : State) : State := (s.setBuzzer (!s.buzzer)).setLed (!s.led)

/-- `t = tick_flag ; tick_flag <- 0`, one atomic read-and-clear (R132). -/
def readAndClearTick (s : State) : Bool × State := (s.tickFlag, s.setTickFlag false)

end Sys2Proof.Machine
end

