-- ==== Sys2Proof/Machine/Operands.lean ====
section
/-! DEFINITION. What the micro-operations select on, formed from the state (R77 to R79, R84), and the ports of the
block (R175). The one operand of a command, the sample, is decoded with its word (R76). -/

namespace Sys2Proof.Machine

/-- The selector word of `DEB(b)` in a state (R84). -/
def debSelector (b : Bool) (s : State) : TableWord :=
  ⟨.debArm, (debWord s.btnState b (confFull s) (confFills s)).toNat⟩

/-- The selector word of `TCK` in a state (R84). -/
def tckSelector (s : State) : TableWord := ⟨.tckArm, (tckWord s.tickFlag s.devState).toNat⟩

/-- The selector word of `FSM` in a state (R84). -/
def fsmSelector (s : State) : TableWord := ⟨.fsmArm, (fsmWord s.devState (s.btnState == .pressed)).toNat⟩

/-- The functional outputs of the block, one port per register (R175, R178). -/
structure Outputs where
  buzzer : Bool
  led : Bool
  fire : Bool
  deriving DecidableEq, Repr

/-- The levels on the output ports: the registers themselves (R178). -/
def outputs (s : State) : Outputs := ⟨s.buzzer, s.led, s.fire⟩

/-- The observation port `btn_state_o` (R175, R70). -/
def btnStatePort (s : State) : BitVec 2 := s.btnState.code

/-- The observation port `btn_conf_o`, `W_CONF` bits (R175, R54). -/
def btnConfPort (s : State) : BitVec s.cfg.confWidth := BitVec.ofNat _ s.btnConf

/-- The observation port `dev_state_o` (R175, R71). -/
def devStatePort (s : State) : BitVec 2 := s.devState.code

/-- The observation port `tick_flag_o` (R175). -/
def tickFlagPort (s : State) : Bool := s.tickFlag

/-- The observation port `elapsed_o` (R175). -/
def elapsedPort (s : State) : TickCount := s.elapsed

/-- The state put where the arm of a `DEB` selector word is selected: `btn_state` from the word's high bits, and a
`btn_conf` that selects the word's arm, `T` for `DEB.PRC`, `T - 1` for `DEB.RRC`, 0 for the others. DESIGN CHOICE, log
entry 5: the word's own `eqT` and `nxT` are not kept, since no state holds some of them (`eqT` = 1 with `nxT` = 0, as in
`10010`), and with `T` = 1 no state selects `DEB.RRN` (R107), so its words place `DEB.RRC`. Used by no operation. -/
def State.selecting (s : State) (w : DebWord) : State :=
  (s.setBtnState (BtnState.ofCode (w.extractLsb' 3 2))).setBtnConf
    (if decodeDebArm w = .debPrc then s.cfg.debounceThreshold
     else if decodeDebArm w = .debRrc then s.cfg.debounceThreshold - 1
     else 0)

/-- The table's number `w` placed for the next step: a command word on the ports, or, for a `DEB` selector, the
state that `State.selecting` gives and the iteration with its sample on the ports (log entry 5). -/
def State.place (s : State) (w : Nat) : State :=
  match tableFormat w with
  | .debArm =>
    let sel : DebWord := BitVec.ofNat 5 w
    (s.selecting sel).present (cmdWord false true false (sel.getLsbD 2))
  | .cmd | .tckArm | .fsmArm => s.present (BitVec.ofNat 4 w)

end Sys2Proof.Machine
end

