-- ==== Sys2Proof/Machine/Debounce.lean ====
section
/-! DEFINITION. The debounce filter: the effect of each arm (R101 to R109), `DEB(s)` (R100), and the meaning of each
arm's row. Every arm leaves `dev_state`, `tick_flag`, `elapsed` and the outputs as they are (R100). -/

namespace Sys2Proof.Machine

/-- `DEB.UP`: the sample enters `PressPending` and is not counted (R101, C1). -/
def debUp (s : State) : State := (s.setBtnState .pressPending).setBtnConf 0

/-- `DEB.UR`: no change (R102, D14). -/
def debUr (s : State) : State := s

/-- `DEB.PP`: one more pressed-sample, saturating at `T` (R103, R110). -/
def debPp (s : State) : State := s.setBtnConf (nextConf s)

/-- `DEB.PRC`: the press is debounced (R104). -/
def debPrc (s : State) : State := (s.setBtnState .releasePending).setBtnConf 0

/-- `DEB.PRB`: a bounce; the press debounce starts again (R105). -/
def debPrb (s : State) : State := s.setBtnConf 0

/-- `DEB.RP`: a bounce during the release (R106). -/
def debRp (s : State) : State := s.setBtnConf 0

/-- `DEB.RRN`: one more released-sample (R107). -/
def debRrn (s : State) : State := s.setBtnConf (s.btnConf + 1)

/-- `DEB.RRC`: the commit (R108, D15). -/
def debRrc (s : State) : State := (s.setBtnState .pressed).setBtnConf 0

/-- `DEB.L`: latched, no change (R109). -/
def debL (s : State) : State := s

/-- `DEB(b)` (R100). -/
def deb (b : Bool) (s : State) : State :=
  match s.btnState with
  | .unpressed => if b then debUp s else debUr s
  | .pressPending => if b then debPp s else if confFull s then debPrc s else debPrb s
  | .releasePending => if b then debRp s else if confFills s then debRrc s else debRrn s
  | .pressed => debL s

/-- `DEB.UP`, selected by `Unpressed` (R101). -/
def execDebUp (s : State) : Host.Outcome State Fault Refusal :=
  s.completeArm "DEB.UP" (s.btnState == .unpressed) (debUp s)

/-- `DEB.UR`, selected by `Unpressed` (R102). -/
def execDebUr (s : State) : Host.Outcome State Fault Refusal :=
  s.completeArm "DEB.UR" (s.btnState == .unpressed) (debUr s)

/-- `DEB.PP`, selected by `PressPending` (R103). -/
def execDebPp (s : State) : Host.Outcome State Fault Refusal :=
  s.completeArm "DEB.PP" (s.btnState == .pressPending) (debPp s)

/-- `DEB.PRC`, selected by `PressPending` and `btn_conf = T` (R104). -/
def execDebPrc (s : State) : Host.Outcome State Fault Refusal :=
  s.completeArm "DEB.PRC" (s.btnState == .pressPending && confFull s) (debPrc s)

/-- `DEB.PRB`, selected by `PressPending` and not `btn_conf = T` (R105, R77; log entry 4). -/
def execDebPrb (s : State) : Host.Outcome State Fault Refusal :=
  s.completeArm "DEB.PRB" (s.btnState == .pressPending && !confFull s) (debPrb s)

/-- `DEB.RP`, selected by `ReleasePending` (R106). -/
def execDebRp (s : State) : Host.Outcome State Fault Refusal :=
  s.completeArm "DEB.RP" (s.btnState == .releasePending) (debRp s)

/-- `DEB.RRN`, selected by `ReleasePending` and a count that stays below `T` (R107). -/
def execDebRrn (s : State) : Host.Outcome State Fault Refusal :=
  s.completeArm "DEB.RRN" (s.btnState == .releasePending && !confFills s) (debRrn s)

/-- `DEB.RRC`, selected by `ReleasePending` and a count that reaches `T` (R108). -/
def execDebRrc (s : State) : Host.Outcome State Fault Refusal :=
  s.completeArm "DEB.RRC" (s.btnState == .releasePending && confFills s) (debRrc s)

/-- `DEB.L`, selected by `Pressed` (R109). -/
def execDebL (s : State) : Host.Outcome State Fault Refusal :=
  s.completeArm "DEB.L" (s.btnState == .pressed) (debL s)

end Sys2Proof.Machine
end

