-- ==== Sys2Proof/Machine/Device.lean ====
section
/-! DEFINITION. The device-state machine: the effect of each arm (R151 to R154), `FSM` (R150), and the meaning of each arm's
row. No arm touches `tick_flag`, `elapsed`, `btn_conf` or an output (R150). -/

namespace Sys2Proof.Machine

/-- `FSM.OFF`: idle, no change (R152). -/
def fsmOff (s : State) : State := s

/-- `FSM.ARM`: the committed press is consumed and the device arms; `btn_conf` is not written (R151, D18). -/
def fsmArm (s : State) : State := (s.setBtnState .unpressed).setDevState .startRunning

/-- `FSM.SR`: on to `Running` (R153). -/
def fsmSr (s : State) : State := s.setDevState .running

/-- `FSM.RUN`: absorbing, no change (R154). -/
def fsmRun (s : State) : State := s

/-- `FSM` (R150). -/
def fsm (s : State) : State :=
  match s.devState with
  | .off => if s.btnState == .pressed then fsmArm s else fsmOff s
  | .startRunning => fsmSr s
  | .running => fsmRun s

/-- `FSM.OFF`, selected by `Off` and a channel that has not committed (R152). -/
def execFsmOff (s : State) : Host.Outcome State Fault Refusal :=
  s.completeArm "FSM.OFF" (s.devState == .off && !(s.btnState == .pressed)) (fsmOff s)

/-- `FSM.ARM`, selected by `Off` and `Pressed` (R151). -/
def execFsmArm (s : State) : Host.Outcome State Fault Refusal :=
  s.completeArm "FSM.ARM" (s.devState == .off && s.btnState == .pressed) (fsmArm s)

/-- `FSM.SR`, selected by `StartRunning` (R153). -/
def execFsmSr (s : State) : Host.Outcome State Fault Refusal :=
  s.completeArm "FSM.SR" (s.devState == .startRunning) (fsmSr s)

/-- `FSM.RUN`, selected by `Running` (R154). -/
def execFsmRun (s : State) : Host.Outcome State Fault Refusal :=
  s.completeArm "FSM.RUN" (s.devState == .running) (fsmRun s)

end Sys2Proof.Machine
end

