-- ==== Sys2Proof/Machine/Tick.lean ====
section
/-! DEFINITION. The tick: the per-tick work (R136 to R139, R143), `TCK` (R131), and the meanings of `TICK` (R130) and of each
`TCK` arm's row (R133 to R136). -/

namespace Sys2Proof.Machine

/-- The per-tick work: count, toggle, then compare the new count (R136). It goes on after firing (R143). -/
def tickWork (s : State) : State := fireCheck (blink (s.setElapsed (incTicks s.cfg.overflow s.elapsed)))

/-- `TCK` (R131): the flag is read and cleared in every device state (R132, D7), the work done in `Running` only. -/
def tck (s : State) : State :=
  let (t, s') := readAndClearTick s
  if t && s'.devState == .running then tickWork s' else s'

/-- `TCK.N`: nothing pending, no change (R133). -/
def tckN (s : State) : State := s

/-- `TCK.O`: the tick is dropped in `Off` (R134). -/
def tckO (s : State) : State := s.setTickFlag false

/-- `TCK.S`: the tick is dropped in `StartRunning` (R135). -/
def tckS (s : State) : State := s.setTickFlag false

/-- `TCK.R`: the tick is counted (R136). -/
def tckR (s : State) : State := tickWork (s.setTickFlag false)

/-- `TICK` (R130, R141). -/
def execTick (s : State) : Host.Outcome State Fault Refusal := s.complete s.raiseTick

/-- `TCK.N`, selected by `tick_flag = 0` (R133). -/
def execTckN (s : State) : Host.Outcome State Fault Refusal := s.completeArm "TCK.N" (!s.tickFlag) (tckN s)

/-- `TCK.O`, selected by `tick_flag = 1` and `Off` (R134). -/
def execTckO (s : State) : Host.Outcome State Fault Refusal :=
  s.completeArm "TCK.O" (s.tickFlag && s.devState == .off) (tckO s)

/-- `TCK.S`, selected by `tick_flag = 1` and `StartRunning` (R135). -/
def execTckS (s : State) : Host.Outcome State Fault Refusal :=
  s.completeArm "TCK.S" (s.tickFlag && s.devState == .startRunning) (tckS s)

/-- `TCK.R`, selected by `tick_flag = 1` and `Running` (R136). -/
def execTckR (s : State) : Host.Outcome State Fault Refusal :=
  s.completeArm "TCK.R" (s.tickFlag && s.devState == .running) (tckR s)

end Sys2Proof.Machine
end

