-- ==== Sys2Proof/Machine/Cycle.lean ====
section
/-! DEFINITION. The composites: the main-loop iteration (R170), the cycle with a tick (R174), the idle cycle (R176), `RESET`
(R220), and the clock edge in the spec's own pseudocode (R173). -/

namespace Sys2Proof.Machine

/-- `DEB(b) ; TCK ; FSM`, one main-loop iteration (R170, R171). -/
def iteration (b : Bool) (s : State) : State := fsm (tck (deb b s))

/-- `RESET` (R220). -/
def execReset (s : State) : Host.Outcome State Fault Refusal := s.complete s.resetBlock

/-- `NOP` (R176). -/
def execNop (s : State) : Host.Outcome State Fault Refusal := s.complete s

/-- `STEP b` (R170). -/
def execStep (b : Bool) (s : State) : Host.Outcome State Fault Refusal := s.complete (iteration b s)

/-- `STEPT b`: the iteration on the old flag, then the tick (R174, D6). -/
def execStept (b : Bool) (s : State) : Host.Outcome State Fault Refusal := s.complete (iteration b s).raiseTick

/-- `Cycle(rst, step_en, tick_set, btn_raw)`, the clock edge as R173 writes it. -/
def clockEdge (rst stepEn tickSet btnRaw : Bool) (s : State) : State :=
  if rst then s.resetBlock
  else
    let s' := if stepEn then iteration btnRaw s else s
    if tickSet then s'.raiseTick else s'

end Sys2Proof.Machine
end

