-- ==== Sys2Proof/Machine/Dispatch.lean ====
section
/-! DEFINITION. One arm per instruction, each one direct call of its meaning. -/

namespace Sys2Proof.Machine

/-- The meaning of an instruction in a state. -/
def exec (i : Instr) (s : State) : Host.Outcome State Fault Refusal :=
  match i with
  | .reset => Sys2Proof.Machine.execReset s
  | .nop => Sys2Proof.Machine.execNop s
  | .tick => Sys2Proof.Machine.execTick s
  | .step b => Sys2Proof.Machine.execStep b s
  | .stept b => Sys2Proof.Machine.execStept b s
  | .debUp => Sys2Proof.Machine.execDebUp s
  | .debUr => Sys2Proof.Machine.execDebUr s
  | .debPp => Sys2Proof.Machine.execDebPp s
  | .debPrc => Sys2Proof.Machine.execDebPrc s
  | .debPrb => Sys2Proof.Machine.execDebPrb s
  | .debRp => Sys2Proof.Machine.execDebRp s
  | .debRrn => Sys2Proof.Machine.execDebRrn s
  | .debRrc => Sys2Proof.Machine.execDebRrc s
  | .debL => Sys2Proof.Machine.execDebL s
  | .tckN => Sys2Proof.Machine.execTckN s
  | .tckO => Sys2Proof.Machine.execTckO s
  | .tckS => Sys2Proof.Machine.execTckS s
  | .tckR => Sys2Proof.Machine.execTckR s
  | .fsmOff => Sys2Proof.Machine.execFsmOff s
  | .fsmArm => Sys2Proof.Machine.execFsmArm s
  | .fsmSr => Sys2Proof.Machine.execFsmSr s
  | .fsmRun => Sys2Proof.Machine.execFsmRun s

end Sys2Proof.Machine
end

