-- ==== Sys2Proof/Machine/Step.lean ====
section
/-! DEFINITION. One step is one clock edge: the command word on the ports is read, decoded and applied (R173). Also a run over
a given trace of command words (R82), and the placing of a word for the next step. -/

namespace Sys2Proof.Machine

/-- One clock edge (R173). -/
def step (s : State) : Host.Outcome State Fault Refusal :=
  let (w, s') := s.readPorts
  exec (decodeCmd w) s'

/-- A run over a trace of command words, one per clock edge (R82, R235). -/
def runTrace : List CmdWord → State → Host.Outcome State Fault Refusal
  | [], s => .next s
  | w :: ws, s =>
    match exec (decodeCmd w) s with
    | .next t => runTrace ws t
    | .fault r => .fault r
    | .refused r => .refused r

/-- The table's number `w` placed so that the next step runs it (log entry 5). -/
def State.withFetchWord (s : State) (_nbits w : Nat) : State := s.place w

end Sys2Proof.Machine
end

