-- ==== Sys2Proof/Safety.lean ====
section
/-! DEFINITION. What the claims speak of: the invariants of 10_state.md (R30, R36 to R42), sample runs of the filter
(R111), and counts over a trace (R43, R230, R241). -/

namespace Sys2Proof.Machine

/-- `0 <= btn_conf <= T` (R36). -/
abbrev ConfBounded (s : State) : Prop := s.btnConf ≤ s.cfg.debounceThreshold

/-- Outside the pending states the confidence is 0 (R37). -/
abbrev ConfIdle (s : State) : Prop := s.btnState = .unpressed ∨ s.btnState = .pressed → s.btnConf = 0

/-- `T` is never held in `ReleasePending` (R38). -/
abbrev ReleaseOpen (s : State) : Prop := s.btnState = .releasePending → s.btnConf < s.cfg.debounceThreshold

/-- Before `Running` nothing has been counted and no output has moved (R41). -/
abbrev QuietBeforeRunning (s : State) : Prop :=
  s.devState ≠ .running →
    s.elapsed = 0 ∧ s.buzzer = s.cfg.buzzerInit ∧ s.led = s.cfg.ledInit ∧ s.fire = false

/-- The blinkers keep their phase relation (R30). -/
abbrev BlinkersInPhase (s : State) : Prop := (s.buzzer ^^ s.led) = (s.cfg.buzzerInit ^^ s.cfg.ledInit)

/-- A count above `C` has fired, and under `saturate` nothing else has (R43, R139). -/
abbrev FireMatchesCount (s : State) : Prop :=
  (s.cfg.cutdownTicks < s.elapsed.toNat → s.fire = true) ∧
    (s.cfg.overflow = .saturate → s.fire = true → s.cfg.cutdownTicks < s.elapsed.toNat)

/-- The invariants every operation keeps (R30, R36 to R38, R41, R43), on a build within the legal ranges. -/
abbrev State.Inv (s : State) : Prop :=
  s.cfg.Valid ∧ ConfBounded s ∧ ConfIdle s ∧ ReleaseOpen s ∧ QuietBeforeRunning s ∧ BlinkersInPhase s ∧
    FireMatchesCount s

/-- Between iterations a committed press has been consumed (R42). -/
abbrev State.Settled (s : State) : Prop := s.devState = .off → s.btnState ≠ .pressed

/-- `DEB` alone over a list of samples, the first sample first (R111). -/
def debRun : List Bool → State → State
  | [], s => s
  | b :: bs, s => debRun bs (deb b s)

/-- The command word runs an iteration: `step_en` without `rst` (R173). -/
def wordIterates (w : CmdWord) : Bool := !cmdRst w && cmdStepEn w

/-- The command word raises a tick: `tick_set` without `rst` (R173, R193). -/
def wordTicks (w : CmdWord) : Bool := !cmdRst w && cmdTickSet w

/-- The number of iterations of a trace (R241). -/
def iterations (ws : List CmdWord) : Nat := ws.countP wordIterates

/-- The number of executions of `TCK.R` in a run over a trace: iterations that find a pending tick in `Running` (R43). -/
def ticksCounted : List CmdWord → State → Nat
  | [], _ => 0
  | w :: ws, s =>
    match exec (decodeCmd w) s with
    | .next t => (wordIterates w && s.tickFlag && s.devState == .running).toNat + ticksCounted ws t
    | .fault _ => 0
    | .refused _ => 0

/-- The number of ticks raised in a run over a trace at clock edges that leave the device in `Running` (R230). -/
def ticksRaisedRunning : List CmdWord → State → Nat
  | [], _ => 0
  | w :: ws, s =>
    match exec (decodeCmd w) s with
    | .next t => (wordTicks w && t.devState == .running).toNat + ticksRaisedRunning ws t
    | .fault _ => 0
    | .refused _ => 0

/-- Two command words that differ at most in the sample, neither a reset (R157). -/
abbrev SameButSample (w w' : CmdWord) : Prop :=
  cmdRst w = false ∧ cmdRst w' = false ∧ cmdStepEn w = cmdStepEn w' ∧ cmdTickSet w = cmdTickSet w'

end Sys2Proof.Machine
end

