-- ==== Sys2Proof/Certificates/Slice0/Obligations.lean ====
section
/-! DEFINITION. The statements for the provers, each a `def Obligations.<Name> : Prop`, listed in OBLIGATIONS.json. -/

open Sys2Proof Sys2Proof.Machine

/-! ### The commands -/

/-- R220, R35: `RESET` writes all eight elements to their reset values, whatever they were; the build and the
environment's words, the model's own fields, stay. -/
def Obligations.ResetWritesAllEight : Prop :=
  ∀ s : State, s.cfg.Valid →
    exec .reset s = .next
      { s with
        btnState := .unpressed, btnConf := 0, devState := .off, tickFlag := false, elapsed := 0,
        buzzer := s.cfg.buzzerInit, led := s.cfg.ledInit, fire := false }

/-- R176: `NOP`, the command of both words without `rst`, `step_en` and `tick_set`, changes nothing; `btn_raw` is not
looked at. -/
def Obligations.NopChangesNothing : Prop :=
  ∀ (s : State) (b : Bool), s.cfg.Valid →
    decodeCmd (cmdWord false false false b) = .nop ∧ exec .nop s = .next s

/-- R130: `TICK`, the command of both words with `tick_set` alone, sets the tick flag and writes nothing else, in every
device state. -/
def Obligations.TickSetsFlagOnly : Prop :=
  ∀ (s : State) (b : Bool), s.cfg.Valid →
    decodeCmd (cmdWord false false true b) = .tick ∧ exec .tick s = .next { s with tickFlag := true }

/-- R141, which the spec marks as derived from R130: a `TICK` on a set flag merges with the pending one: the whole state
stays, so no second tick is held. -/
def Obligations.TickOnSetFlagMerges : Prop :=
  ∀ s : State, s.cfg.Valid → s.tickFlag = true → exec .tick s = .next s

/-- R170 with R100, R131, R150: the next value of every element after one main-loop iteration, as a table over the
state before it. The channel is the filter's next state, but a commit in `Off` is consumed at once; a pending
tick is counted in `Running` only; the flag is always cleared. Where `btn_conf` is above `T` (93 V2, no run meets it)
the row of `PressPending` with a released-sample is the model's choice, log entry 4: the bounce of `DEB.PRB`. -/
def Obligations.IterationNextState : Prop :=
  ∀ (b : Bool) (s : State), s.cfg.Valid →
    exec (.step b) s = .next
      { s with
        btnState :=
          match s.btnState, b with
          | .unpressed, true => .pressPending
          | .unpressed, false => .unpressed
          | .pressPending, true => .pressPending
          | .pressPending, false =>
            if s.btnConf = s.cfg.debounceThreshold then .releasePending else .pressPending
          | .releasePending, true => .releasePending
          | .releasePending, false =>
            if s.btnConf + 1 < s.cfg.debounceThreshold then .releasePending
            else if s.devState = .off then .unpressed else .pressed
          | .pressed, _ => if s.devState = .off then .unpressed else .pressed
        btnConf :=
          match s.btnState, b with
          | .unpressed, true => 0
          | .unpressed, false => s.btnConf
          | .pressPending, true => min (s.btnConf + 1) s.cfg.debounceThreshold
          | .pressPending, false => 0
          | .releasePending, true => 0
          | .releasePending, false =>
            if s.btnConf + 1 < s.cfg.debounceThreshold then s.btnConf + 1 else 0
          | .pressed, _ => s.btnConf
        devState :=
          match s.devState with
          | .off =>
            if s.btnState = .pressed ∨
                (s.btnState = .releasePending ∧ b = false ∧ s.cfg.debounceThreshold ≤ s.btnConf + 1) then
              .startRunning
            else .off
          | .startRunning => .running
          | .running => .running
        tickFlag := false
        elapsed :=
          if s.tickFlag = true ∧ s.devState = .running then
            if s.elapsed.toNat < 2 ^ 32 - 1 then s.elapsed + 1
            else if s.cfg.overflow = .saturate then s.elapsed else 0
          else s.elapsed
        buzzer := if s.tickFlag = true ∧ s.devState = .running then !s.buzzer else s.buzzer
        led := if s.tickFlag = true ∧ s.devState = .running then !s.led else s.led
        fire :=
          if s.tickFlag = true ∧ s.devState = .running ∧
              s.cfg.cutdownTicks <
                (if s.elapsed.toNat < 2 ^ 32 - 1 then s.elapsed.toNat + 1
                 else if s.cfg.overflow = .saturate then s.elapsed.toNat else 0) then
            true
          else s.fire }

/-- R174: `STEPT b` is `STEP b` and then `TICK`: it ends in the state the iteration leaves, with the flag set. So without
`rst` the flag's next value is `tick_set or (tick_flag and not step_en)`, over every command word and every state. -/
def Obligations.SteptIsStepThenTick : Prop :=
  ∀ s : State, s.cfg.Valid →
    (∀ b : Bool, ∃ t, exec (.step b) s = .next t ∧ exec .tick t = .next { t with tickFlag := true } ∧
      exec (.stept b) s = .next { t with tickFlag := true }) ∧
    ∀ w : CmdWord, cmdRst w = false →
      ∃ t, exec (decodeCmd w) s = .next t ∧
        t.tickFlag = (cmdTickSet w || (s.tickFlag && !cmdStepEn w))

/-- R221: with `rst` set the other three inputs are ignored: all eight words do what `RESET` does; no iteration runs and
a tick raised in that cycle is not recorded. -/
def Obligations.ResetWinsOverOtherInputs : Prop :=
  ∀ (stepEn tickSet btnRaw : Bool) (s : State), s.cfg.Valid →
    exec (decodeCmd (cmdWord true stepEn tickSet btnRaw)) s = .next
      { s with
        btnState := .unpressed, btnConf := 0, devState := .off, tickFlag := false, elapsed := 0,
        buzzer := s.cfg.buzzerInit, led := s.cfg.ledInit, fire := false }

/-- R173: at each clock edge the decoded command word does what the spec's `Cycle(rst, step_en, tick_set, btn_raw)`
does, written here over its four bits with the three micro-operations. -/
def Obligations.ClockEdgeIsCyclePseudocode : Prop :=
  ∀ (rst stepEn tickSet btnRaw : Bool) (s : State), s.cfg.Valid →
    exec (decodeCmd (cmdWord rst stepEn tickSet btnRaw)) s =
      .next
        (if rst then s.resetBlock
         else
          let s1 := if stepEn then fsm (tck (deb btnRaw s)) else s
          if tickSet then s1.raiseTick else s1)

/-! ### The arms of the micro-operations -/

/-- R101, R102: the two arms of `Unpressed`. -/
def Obligations.UnpressedArms : Prop :=
  ∀ s : State, s.cfg.Valid → s.btnState = .unpressed →
    exec .debUp s = .next { s with btnState := .pressPending, btnConf := 0 } ∧ exec .debUr s = .next s

/-- R103 to R105: the three arms of `PressPending`. -/
def Obligations.PressPendingArms : Prop :=
  ∀ s : State, s.cfg.Valid → s.btnState = .pressPending →
    exec .debPp s = .next { s with btnConf := min (s.btnConf + 1) s.cfg.debounceThreshold } ∧
    (s.btnConf = s.cfg.debounceThreshold →
      exec .debPrc s = .next { s with btnState := .releasePending, btnConf := 0 }) ∧
    (s.btnConf < s.cfg.debounceThreshold → exec .debPrb s = .next { s with btnConf := 0 })

/-- R106 to R108: the three arms of `ReleasePending`. -/
def Obligations.ReleasePendingArms : Prop :=
  ∀ s : State, s.cfg.Valid → s.btnState = .releasePending →
    exec .debRp s = .next { s with btnConf := 0 } ∧
    (s.btnConf + 1 < s.cfg.debounceThreshold → exec .debRrn s = .next { s with btnConf := s.btnConf + 1 }) ∧
    (s.cfg.debounceThreshold ≤ s.btnConf + 1 →
      exec .debRrc s = .next { s with btnState := .pressed, btnConf := 0 })

/-- R109: `Pressed` is latched: the arm changes nothing, and `DEB` of either sample takes it. -/
def Obligations.PressedIsLatched : Prop :=
  ∀ s : State, s.cfg.Valid → s.btnState = .pressed →
    exec .debL s = .next s ∧ ∀ b : Bool, decode (debSelector b s) = .ok .debL

/-- R133 to R135: without a pending tick `TCK` changes nothing; a tick pending in `Off` or `StartRunning` is dropped. -/
def Obligations.TickDroppingArms : Prop :=
  ∀ s : State, s.cfg.Valid →
    (s.tickFlag = false → exec .tckN s = .next s) ∧
    (s.tickFlag = true → s.devState = .off → exec .tckO s = .next { s with tickFlag := false }) ∧
    (s.tickFlag = true → s.devState = .startRunning → exec .tckS s = .next { s with tickFlag := false })

/-- R136 to R139, R143: a tick pending in `Running` is counted, the blinkers toggle, and `fire` is set when the new count
exceeds `C`; with `fire` already set nothing of this stops. -/
def Obligations.TickCountingArm : Prop :=
  ∀ s : State, s.cfg.Valid → s.tickFlag = true → s.devState = .running →
    ∃ e : TickCount,
      (s.elapsed.toNat < 2 ^ 32 - 1 → e.toNat = s.elapsed.toNat + 1) ∧
      (s.elapsed.toNat = 2 ^ 32 - 1 → s.cfg.overflow = .saturate → e = s.elapsed) ∧
      (s.elapsed.toNat = 2 ^ 32 - 1 → s.cfg.overflow = .wrap → e = 0) ∧
      exec .tckR s = .next
        { s with
          tickFlag := false, elapsed := e, buzzer := !s.buzzer, led := !s.led,
          fire := if s.cfg.cutdownTicks < e.toNat then true else s.fire }

/-- R151 to R154: the four arms of the device-state machine. -/
def Obligations.DeviceArms : Prop :=
  ∀ s : State, s.cfg.Valid →
    (s.devState = .off → s.btnState = .pressed →
      exec .fsmArm s = .next { s with btnState := .unpressed, devState := .startRunning }) ∧
    (s.devState = .off → s.btnState ≠ .pressed → exec .fsmOff s = .next s) ∧
    (s.devState = .startRunning → exec .fsmSr s = .next { s with devState := .running }) ∧
    (s.devState = .running → exec .fsmRun s = .next s)

/-- R100, with the selection tables R77 and R84, which the spec marks as derived: in every state and for either sample
the selector word of `DEB(s)` selects an arm, and running that arm is `DEB(s)`. R77 is complete for `btn_conf` up to `T`;
above it (93 V2, no run meets it) taking `DEB.PRB` is the model's choice, log entry 4. -/
def Obligations.DebRunsItsSelectedArm : Prop :=
  ∀ (b : Bool) (s : State), s.cfg.Valid →
    ∃ a, decode (debSelector b s) = .ok a ∧ exec a s = .next (deb b s)

/-- R131, with R78 and R84, which the spec marks as derived: likewise for `TCK`. -/
def Obligations.TckRunsItsSelectedArm : Prop :=
  ∀ s : State, s.cfg.Valid → ∃ a, decode (tckSelector s) = .ok a ∧ exec a s = .next (tck s)

/-- R150, with R79 and R84, which the spec marks as derived: likewise for `FSM`. -/
def Obligations.FsmRunsItsSelectedArm : Prop :=
  ∀ s : State, s.cfg.Valid → ∃ a, decode (fsmSelector s) = .ok a ∧ exec a s = .next (fsm s)

/-- R170 refined to the arm tables R77 to R79, which the spec marks as derived: `STEP b` is three arms run in order,
each the one its micro-operation's selector word selects in the state the arm before it left. Where `btn_conf` is above
`T` (93 V2, no run meets it) taking `DEB.PRB` is the model's choice, log entry 4. -/
def Obligations.StepIsThreeSelectedArms : Prop :=
  ∀ (b : Bool) (s : State), s.cfg.Valid →
    ∃ a1 a2 a3 s1 s2 s3,
      decode (debSelector b s) = .ok a1 ∧ exec a1 s = .next s1 ∧
      decode (tckSelector s1) = .ok a2 ∧ exec a2 s1 = .next s2 ∧
      decode (fsmSelector s2) = .ok a3 ∧ exec a3 s2 = .next s3 ∧
      exec (.step b) s = .next s3

/-- The model's choice for an arm by itself (log entry 3): an arm has a next state exactly where some micro-operation's
selector word selects it, and is refused by its own name elsewhere. Where `btn_conf` is above `T` (93 V2, no run meets
it) selecting `DEB.PRB` is the model's choice too, log entry 4. -/
def Obligations.ArmRunsOnlyWhereSelected : Prop :=
  ∀ (i : Instr) (s : State), s.cfg.Valid → commandWord i = none →
    ((∃ t, exec i s = .next t) ↔
      (∃ b : Bool, decode (debSelector b s) = .ok i) ∨ decode (tckSelector s) = .ok i ∨
        decode (fsmSelector s) = .ok i) ∧
    ((¬ ∃ t, exec i s = .next t) → exec i s = .refused (.armNotSelected (opcodeRow i).mnemonic))

/-! ### Encoding -/

/-- R75, R80: every one of the 16 words is a command, by the table of R75. -/
def Obligations.CommandWordTable : Prop :=
  ∀ w : CmdWord,
    decodeCmd w =
      match w.toNat with
      | 0 => .nop
      | 1 => .nop
      | 2 => .tick
      | 3 => .tick
      | 4 => .step false
      | 5 => .step true
      | 6 => .stept false
      | 7 => .stept true
      | _ => .reset

/-- R75, and R84, which the spec marks as derived: decoding the canonical word of any instruction gives it back, and
that word is well formed. -/
def Obligations.DecodeEncodeRoundTrip : Prop :=
  ∀ i : Instr, (encode i).WellFormed ∧ decode (encode i) = .ok i

/-- R75, and R84, which the spec marks as derived: a well-formed table word decodes, to an instruction whose row it
lies in, and it lies in no other row. -/
def Obligations.EveryWordLiesInOneRow : Prop :=
  ∀ t : TableWord, t.WellFormed →
    ∃ i, decode t = .ok i ∧ rowMatches (opcodeRow i) t = true ∧
      ∀ j, rowMatches (opcodeRow j) t = true → opcodeRow j = opcodeRow i

/-- R72, R84: code 3 of `dev_state` is no value, and a selector word that holds it is refused, but for the `TCK` word
`011`, which decodes to `TCK.N` by its pattern `0xx` (log entry 8). -/
def Obligations.ReservedDeviceCodeRefused : Prop :=
  DevState.ofCode 3 = none ∧
    (∀ t : TableWord, t.bits < 2 ^ t.format.width → (t.reserved = true ↔ decode t = .error .reservedDevState)) ∧
    ∀ d : DevState, d.code ≠ 3 ∧ DevState.ofCode d.code = some d

/-- Words written out from the spec's patterns decode to the instruction they stand for (R75, R84), one of each format. -/
def Obligations.SampleWordsDecode : Prop :=
  decode ⟨.cmd, 0b0101⟩ = .ok (.step true) ∧ decode ⟨.cmd, 0b0110⟩ = .ok (.stept false) ∧
  decode ⟨.cmd, 0b1011⟩ = .ok .reset ∧ decode ⟨.debArm, 0b01010⟩ = .ok .debPrc ∧
  decode ⟨.debArm, 0b10011⟩ = .ok .debRrc ∧ decode ⟨.tckArm, 0b110⟩ = .ok .tckR ∧
  decode ⟨.fsmArm, 0b001⟩ = .ok .fsmArm

/-! ### The step -/

/-- R173: a step is one clock edge: it reads the next command word, the environment's free one where none is announced
(log entry 2), and is `exec` of the decoded command on the state with that word used up. -/
def Obligations.StepRunsDecodedCommand : Prop :=
  (∀ (s : State) (w : CmdWord) (ws : List CmdWord), s.trace = w :: ws →
    step s = exec (decodeCmd w) { s with trace := ws }) ∧
  ∀ s : State, s.trace = [] →
    step s = exec (decodeCmd (Config.envWord s.draws)) { s with draws := s.draws + 1 }

/-- R16, R190: the machine always has a next state: no command word, announced or free, faults or is refused. -/
def Obligations.StepAlwaysCompletes : Prop :=
  ∀ s : State, s.cfg.Valid → ∃ t, step s = .next t ∧ t.cfg = s.cfg

/-- The host's run of steps over announced words is the run over the trace (R82), for any words announced after them.
That words are announced in the state is the model's choice, log entry 2. -/
def Obligations.RunOfStepsIsTraceRun : Prop :=
  ∀ (ws rest : List CmdWord) (s : State),
    Sys2Proof.core.run ws.length { s with trace := ws ++ rest } = runTrace ws { s with trace := rest }

/-- R224, 93 V3: a block built outside the legal ranges is given no meaning: no instruction has a next state, and every
command is refused by that name. That each instruction refuses it, and not the build itself, is the model's choice,
log entry 6. -/
def Obligations.BuildOutOfRangeRefused : Prop :=
  ∀ s : State, ¬ s.cfg.Valid →
    (∀ (i : Instr) (t : State), exec i s ≠ .next t) ∧
      ∀ w : CmdWord, exec (decodeCmd w) s = .refused .buildOutOfRange

/-! ### Invariants -/

/-- R35 with R36 to R42: the reset state of every legal build meets the invariants. -/
def Obligations.ResetStateMeetsInvariants : Prop :=
  ∀ c : Config, c.Valid →
    (State.resetOf c).Inv ∧ (State.resetOf c).Settled ∧ State.reset = State.resetOf Config.reference

/-- R30, R36, R37, R38, R41, R43, which the spec marks as derived: every instruction, an arm by itself included, keeps the
invariants. -/
def Obligations.EveryInstructionKeepsInvariants : Prop :=
  ∀ (i : Instr) (s t : State), s.Inv → exec i s = .next t → t.Inv

/-- R36 to R42, which the spec marks as derived, over clock edges: every step keeps the invariants, and leaves no
committed press in `Off`. -/
def Obligations.StepKeepsInvariants : Prop :=
  ∀ s t : State, s.Inv → s.Settled → step s = .next t → t.Inv ∧ t.Settled

/-- R27: no instruction writes the build-time constants. -/
def Obligations.BuildNeverWritten : Prop :=
  ∀ (i : Instr) (s t : State), exec i s = .next t → t.cfg = s.cfg

/-- R32: who may write what, over all instructions: each element changes only by an operation of its column, and only
the way the table allows. `STEP` and `STEPT` run one operation of each of the core's columns. -/
def Obligations.WriteRights : Prop :=
  ∀ (i : Instr) (s t : State), exec i s = .next t →
    (i = .reset →
      t.btnState = .unpressed ∧ t.btnConf = 0 ∧ t.devState = .off ∧ t.tickFlag = false ∧ t.elapsed = 0 ∧
      t.buzzer = s.cfg.buzzerInit ∧ t.led = s.cfg.ledInit ∧ t.fire = false) ∧
    (i ≠ .reset →
      let deb := i ∈ [.debUp, .debUr, .debPp, .debPrc, .debPrb, .debRp, .debRrn, .debRrc, .debL]
      let tck := i ∈ [.tckN, .tckO, .tckS, .tckR]
      let fsm := i ∈ [.fsmOff, .fsmArm, .fsmSr, .fsmRun]
      let iter := ∃ b, i = .step b ∨ i = .stept b
      (t.btnState ≠ s.btnState →
        (∃ b, (deb ∨ i = .step b ∨ i = .stept b) ∧ t.btnState = (Machine.deb b s).btnState) ∨
        (t.btnState = .unpressed ∧
          ((fsm ∧ s.btnState = .pressed) ∨
            ∃ b, (i = .step b ∨ i = .stept b) ∧ (Machine.deb b s).btnState = .pressed))) ∧
      (t.btnConf ≠ s.btnConf → deb ∨ iter) ∧
      (t.devState ≠ s.devState → (fsm ∨ iter) ∧
        ((s.devState = .off ∧ t.devState = .startRunning) ∨
          (s.devState = .startRunning ∧ t.devState = .running))) ∧
      (s.tickFlag = true → t.tickFlag = false → tck ∨ ∃ b, i = .step b) ∧
      (s.tickFlag = false → t.tickFlag = true → i = .tick ∨ ∃ b, i = .stept b) ∧
      (t.elapsed ≠ s.elapsed → (tck ∨ iter) ∧ t.elapsed = incTicks s.cfg.overflow s.elapsed) ∧
      (t.buzzer ≠ s.buzzer ∨ t.led ≠ s.led → (tck ∨ iter) ∧ t.buzzer = !s.buzzer ∧ t.led = !s.led) ∧
      (t.fire ≠ s.fire → (tck ∨ iter) ∧ t.fire = true))

/-- R155: the transition graph of the device state: an iteration takes `Off` to `Off` or `StartRunning`, `StartRunning` to
`Running` and `Running` to `Running`; no instruction but `RESET`, which goes to `Off`, goes back or skips a state. -/
def Obligations.DeviceStateOneWay : Prop :=
  ∀ (i : Instr) (s t : State), exec i s = .next t →
    (i = .reset → t.devState = .off) ∧
    (i ≠ .reset →
      s.devState.code.toNat ≤ t.devState.code.toNat ∧ t.devState.code.toNat ≤ s.devState.code.toNat + 1) ∧
    ∀ b, (i = .step b ∨ i = .stept b) →
      (s.devState = .off → t.devState ≠ .running) ∧ (s.devState ≠ .off → t.devState = .running)

/-- R220, R26, and R44, which the spec marks as derived: no instruction but `RESET` clears `fire` or leaves `Running`,
and on a build that saturates none makes the count smaller. -/
def Obligations.OnlyResetGoesBack : Prop :=
  ∀ (i : Instr) (s t : State), exec i s = .next t → i ≠ .reset →
    (s.fire = true → t.fire = true) ∧ (s.devState = .running → t.devState = .running) ∧
      (s.cfg.overflow = .saturate → s.elapsed.toNat ≤ t.elapsed.toNat)

/-- R140: fails closed: whatever sets `fire` counted a pending tick in `Running` and found the new count above `C`. -/
def Obligations.FailsClosed : Prop :=
  ∀ (i : Instr) (s t : State), exec i s = .next t → s.fire = false → t.fire = true →
    (i = .tckR ∨ ∃ b, i = .step b ∨ i = .stept b) ∧ s.devState = .running ∧ s.tickFlag = true ∧
      s.cfg.cutdownTicks < t.elapsed.toNat

/-- R58, which the spec marks as derived: `TICK` commutes with `DEB` and with `FSM`; so a `TICK` between the
micro-operations of an iteration is equal in effect to one before the iteration, if it falls before `TCK`, and to one
after it, if it falls after `TCK`. -/
def Obligations.TickCommutesWithDebAndFsm : Prop :=
  ∀ (b : Bool) (s : State),
    deb b s.raiseTick = (deb b s).raiseTick ∧ fsm s.raiseTick = (fsm s).raiseTick ∧
      fsm (tck (deb b s).raiseTick) = iteration b s.raiseTick ∧
      fsm (tck (deb b s)).raiseTick = (iteration b s).raiseTick

/-! ### The debounce filter over runs of samples -/

/-- R111 (a) to (f), which the spec marks as derived: what a run of equal samples does where R111 meets
one: from `Unpressed`, from `PressPending` with the count 0 or `T`, or below `T` for released samples, and from
`ReleasePending` with the count 0, or any for pressed samples. -/
def Obligations.SampleRunLaws : Prop :=
  ∀ (s : State) (n : Nat), s.cfg.Valid →
    (s.btnState = .unpressed → debRun (List.replicate n false) s = s) ∧
    (s.btnState = .unpressed → 1 ≤ n →
      debRun (List.replicate n true) s =
        { s with btnState := .pressPending, btnConf := min (n - 1) s.cfg.debounceThreshold }) ∧
    (s.btnState = .pressPending → s.btnConf < s.cfg.debounceThreshold → 1 ≤ n →
      debRun (List.replicate n false) s = { s with btnConf := 0 }) ∧
    (s.btnState = .pressPending → s.btnConf = 0 →
      debRun (List.replicate n true) s = { s with btnConf := min n s.cfg.debounceThreshold }) ∧
    (s.btnState = .pressPending → s.btnConf = s.cfg.debounceThreshold → 1 ≤ n →
      debRun (List.replicate n false) s =
        if n ≤ s.cfg.debounceThreshold then { s with btnState := .releasePending, btnConf := n - 1 }
        else { s with btnState := .pressed, btnConf := 0 }) ∧
    (s.btnState = .releasePending → 1 ≤ n → debRun (List.replicate n true) s = { s with btnConf := 0 }) ∧
    (s.btnState = .releasePending → s.btnConf = 0 →
      debRun (List.replicate n false) s =
        if n < s.cfg.debounceThreshold then { s with btnConf := n }
        else { s with btnState := .pressed, btnConf := 0 })

/-- R111, which the spec marks as derived: no sample sequence shorter than `2T + 2` commits from `Unpressed`, and `T +
1` pressed samples followed by `T + 1` released samples do. -/
def Obligations.ShortestCommit : Prop :=
  ∀ s : State, s.cfg.Valid → s.btnState = .unpressed →
    (∀ bs : List Bool, (debRun bs s).btnState = .pressed → 2 * s.cfg.debounceThreshold + 2 ≤ bs.length) ∧
      (debRun
        (List.replicate (s.cfg.debounceThreshold + 1) true ++ List.replicate (s.cfg.debounceThreshold + 1) false)
        s).btnState = .pressed

/-- R112, R114: whatever commits from `Unpressed` contains `T` consecutive pressed samples and after them `T` consecutive
released samples. -/
def Obligations.CommitNeedsBothRuns : Prop :=
  ∀ (s : State) (bs : List Bool), s.cfg.Valid → s.btnState = .unpressed → (debRun bs s).btnState = .pressed →
    ∃ before between after,
      bs = before ++ List.replicate s.cfg.debounceThreshold true ++ between ++
        List.replicate s.cfg.debounceThreshold false ++ after

/-- R113: a button held for ever never commits and never arms: after any number of iterations with a pressed-sample from
an `Off` device with an idle channel, the device is `Off` and the channel waits with the confidence saturated. -/
def Obligations.HeldButtonNeverArms : Prop :=
  ∀ (s : State) (n : Nat), s.cfg.Valid → s.btnState = .unpressed → s.devState = .off →
    ∃ t, runTrace (List.replicate (n + 1) 5) s = .next t ∧ t.devState = .off ∧ t.btnState = .pressPending ∧
      t.btnConf = min n s.cfg.debounceThreshold

/-- R115, which the spec marks as derived: the channel goes `Unpressed`, `PressPending`, `ReleasePending`, `Pressed`
and in no other order: one `DEB` leaves the channel's code or adds one to it. -/
def Obligations.ChannelNeverSkipsOrGoesBack : Prop :=
  ∀ (b : Bool) (s : State),
    (deb b s).btnState.code.toNat = s.btnState.code.toNat ∨
      (deb b s).btnState.code.toNat = s.btnState.code.toNat + 1

/-! ### From reset to firing -/

/-- R83, with R111 and R241, which the spec marks as derived: the pseudo-command `ARM` takes the reset state to
`Running` in `2T + 3` iterations, with nothing counted and no output moved. -/
def Obligations.ArmTraceReachesRunning : Prop :=
  ∀ s : State, s.cfg.Valid →
    (assemble s.cfg.debounceThreshold [.arm]).length = 2 * s.cfg.debounceThreshold + 3 ∧
      runTrace (assemble s.cfg.debounceThreshold [.arm]) s.resetBlock =
        .next { s.resetBlock with devState := .running }

/-- R241, which the spec marks as derived: no trace with fewer than `2T + 3` iterations takes the reset state to
`Running`. -/
def Obligations.EarliestRunning : Prop :=
  ∀ (s t : State) (ws : List CmdWord), s.cfg.Valid → runTrace ws s.resetBlock = .next t →
    t.devState = .running → 2 * s.cfg.debounceThreshold + 3 ≤ iterations ws

/-- R171, R179, which the spec marks as derived: the iteration that commits in `Off` arms and consumes; the iteration
after it reaches `Running` and drops a tick pending at either of the two, raised between them included; nothing is
counted and no output moves. -/
def Obligations.CommitToRunningTakesTwoIterations : Prop :=
  ∀ (s : State) (between b : Bool), s.cfg.Valid → s.devState = .off → s.btnState = .releasePending →
    s.cfg.debounceThreshold ≤ s.btnConf + 1 →
    ∃ s1 s2 s3, exec (.step false) s = .next s1 ∧ s1.devState = .startRunning ∧ s1.btnState = .unpressed ∧
      exec (if between then .tick else .nop) s1 = .next s2 ∧ s2.tickFlag = between ∧
      exec (.step b) s2 = .next s3 ∧ s3.devState = .running ∧ s3.tickFlag = false ∧ s3.elapsed = s.elapsed ∧
      outputs s3 = outputs s

/-- R156, which the spec marks as derived: a press committed after arming is never consumed: no command but `RESET`
moves the channel off `Pressed` in `StartRunning` or `Running`. -/
def Obligations.LaterCommitNeverConsumed : Prop :=
  ∀ (w : CmdWord) (s : State), s.cfg.Valid → s.devState ≠ .off → s.btnState = .pressed → cmdRst w = false →
    ∃ t, exec (decodeCmd w) s = .next t ∧ t.btnState = .pressed ∧ t.devState ≠ .off

/-- R43, which the spec marks as derived: with `n` ticks counted in `Running` since reset, the count, the blinkers and
the fire bit are the functions of `n` that the rule gives, for either `TICKS_OVERFLOW`, also beyond the counter's
range. -/
def Obligations.CountedTicksDetermineOutputs : Prop :=
  ∀ (s t : State) (ws : List CmdWord), s.cfg.Valid → (∀ w ∈ ws, cmdRst w = false) →
    runTrace ws s.resetBlock = .next t →
    let n := ticksCounted ws s.resetBlock
    (n ≤ 2 ^ 32 - 1 → t.elapsed.toNat = n) ∧
    (s.cfg.overflow = .saturate → t.elapsed.toNat = min n (2 ^ 32 - 1)) ∧
    (s.cfg.overflow = .wrap → t.elapsed.toNat = n % 2 ^ 32) ∧
    t.buzzer = (s.cfg.buzzerInit ^^ decide (n % 2 = 1)) ∧ t.led = (s.cfg.ledInit ^^ decide (n % 2 = 1)) ∧
    (t.fire = true ↔ s.cfg.cutdownTicks < n)

/-- R140, and R230, which the spec marks as derived: `fire` is not set before `C + 1` ticks have been raised in
`Running`, on any trace whatever, resets and late iterations included. -/
def Obligations.FireNeedsTicksRaisedInRunning : Prop :=
  ∀ (s t : State) (ws : List CmdWord), s.cfg.Valid → runTrace ws s.resetBlock = .next t → t.fire = true →
    s.cfg.cutdownTicks + 1 ≤ ticksRaisedRunning ws s.resetBlock

/-- R157: the button has no function after arming: two runs whose words differ in the samples alone, from states that
differ in the channel alone, have the same outputs, count, flag and device state; neither goes back to `Off`, and a
`fire` that is set stays set. -/
def Obligations.ButtonIgnoredAfterArming : Prop :=
  ∀ (s s' : State) (ws ws' : List CmdWord), s.cfg.Valid → s.devState ≠ .off →
    s' = { s with btnState := s'.btnState, btnConf := s'.btnConf } → List.Forall₂ SameButSample ws ws' →
    ∃ t t', runTrace ws s = .next t ∧ runTrace ws' s' = .next t' ∧ t.devState ≠ .off ∧
      (s.fire = true → t.fire = true) ∧
      t' = { t with btnState := t'.btnState, btnConf := t'.btnConf }

/-- R137: no output depends on `TICKS_OVERFLOW`: two builds that differ in it alone run alike on every trace, but for
`elapsed`. The premise is the part of the invariant `FireMatchesCount` that a count above `C` has fired (R139). -/
def Obligations.OverflowChoiceNeverSeenAtOutputs : Prop :=
  ∀ (s : State) (o : Overflow) (ws : List CmdWord), s.cfg.Valid →
    (s.cfg.cutdownTicks < s.elapsed.toNat → s.fire = true) →
    ∃ t t', runTrace ws s = .next t ∧
      runTrace ws { s with cfg := { s.cfg with overflow := o } } = .next t' ∧
      outputs t = outputs t' ∧
      t' = { t with cfg := { t.cfg with overflow := o }, elapsed := t'.elapsed }

/-! ### The ports -/

/-- R175, R8, R54: in every state that meets the invariants each port carries its register: `btn_conf_o` loses nothing
at `W_CONF` bits, which is the least width that holds `T`. -/
def Obligations.PortsCarryRegisters : Prop :=
  ∀ s : State, s.Inv →
    (btnConfPort s).toNat = s.btnConf ∧ BtnState.ofCode (btnStatePort s) = s.btnState ∧
    DevState.ofCode (devStatePort s) = some s.devState ∧ tickFlagPort s = s.tickFlag ∧ elapsedPort s = s.elapsed ∧
    outputs s = ⟨s.buzzer, s.led, s.fire⟩ ∧
    s.cfg.debounceThreshold ≤ 2 ^ s.cfg.confWidth - 1 ∧
    ∀ w : Nat, s.cfg.debounceThreshold ≤ 2 ^ w - 1 → s.cfg.confWidth ≤ w
end

