-- ==== Sys2Proof/Laws/State.lean ====
section
/-! SUPPORT. One lemma per field per update of the state, so that no later proof unfolds a record update. -/

namespace Sys2Proof.Machine

variable (s : State)

@[simp] theorem State.setBtnState_btnState (v : BtnState) : (s.setBtnState v).btnState = v := rfl
@[simp] theorem State.setBtnState_btnConf (v : BtnState) : (s.setBtnState v).btnConf = s.btnConf := rfl
@[simp] theorem State.setBtnState_devState (v : BtnState) : (s.setBtnState v).devState = s.devState := rfl
@[simp] theorem State.setBtnState_tickFlag (v : BtnState) : (s.setBtnState v).tickFlag = s.tickFlag := rfl
@[simp] theorem State.setBtnState_elapsed (v : BtnState) : (s.setBtnState v).elapsed = s.elapsed := rfl
@[simp] theorem State.setBtnState_buzzer (v : BtnState) : (s.setBtnState v).buzzer = s.buzzer := rfl
@[simp] theorem State.setBtnState_led (v : BtnState) : (s.setBtnState v).led = s.led := rfl
@[simp] theorem State.setBtnState_fire (v : BtnState) : (s.setBtnState v).fire = s.fire := rfl
@[simp] theorem State.setBtnState_cfg (v : BtnState) : (s.setBtnState v).cfg = s.cfg := rfl
@[simp] theorem State.setBtnState_trace (v : BtnState) : (s.setBtnState v).trace = s.trace := rfl
@[simp] theorem State.setBtnState_draws (v : BtnState) : (s.setBtnState v).draws = s.draws := rfl

@[simp] theorem State.setBtnConf_btnState (v : Nat) : (s.setBtnConf v).btnState = s.btnState := rfl
@[simp] theorem State.setBtnConf_btnConf (v : Nat) : (s.setBtnConf v).btnConf = v := rfl
@[simp] theorem State.setBtnConf_devState (v : Nat) : (s.setBtnConf v).devState = s.devState := rfl
@[simp] theorem State.setBtnConf_tickFlag (v : Nat) : (s.setBtnConf v).tickFlag = s.tickFlag := rfl
@[simp] theorem State.setBtnConf_elapsed (v : Nat) : (s.setBtnConf v).elapsed = s.elapsed := rfl
@[simp] theorem State.setBtnConf_buzzer (v : Nat) : (s.setBtnConf v).buzzer = s.buzzer := rfl
@[simp] theorem State.setBtnConf_led (v : Nat) : (s.setBtnConf v).led = s.led := rfl
@[simp] theorem State.setBtnConf_fire (v : Nat) : (s.setBtnConf v).fire = s.fire := rfl
@[simp] theorem State.setBtnConf_cfg (v : Nat) : (s.setBtnConf v).cfg = s.cfg := rfl
@[simp] theorem State.setBtnConf_trace (v : Nat) : (s.setBtnConf v).trace = s.trace := rfl
@[simp] theorem State.setBtnConf_draws (v : Nat) : (s.setBtnConf v).draws = s.draws := rfl

@[simp] theorem State.setDevState_btnState (v : DevState) : (s.setDevState v).btnState = s.btnState := rfl
@[simp] theorem State.setDevState_btnConf (v : DevState) : (s.setDevState v).btnConf = s.btnConf := rfl
@[simp] theorem State.setDevState_devState (v : DevState) : (s.setDevState v).devState = v := rfl
@[simp] theorem State.setDevState_tickFlag (v : DevState) : (s.setDevState v).tickFlag = s.tickFlag := rfl
@[simp] theorem State.setDevState_elapsed (v : DevState) : (s.setDevState v).elapsed = s.elapsed := rfl
@[simp] theorem State.setDevState_buzzer (v : DevState) : (s.setDevState v).buzzer = s.buzzer := rfl
@[simp] theorem State.setDevState_led (v : DevState) : (s.setDevState v).led = s.led := rfl
@[simp] theorem State.setDevState_fire (v : DevState) : (s.setDevState v).fire = s.fire := rfl
@[simp] theorem State.setDevState_cfg (v : DevState) : (s.setDevState v).cfg = s.cfg := rfl
@[simp] theorem State.setDevState_trace (v : DevState) : (s.setDevState v).trace = s.trace := rfl
@[simp] theorem State.setDevState_draws (v : DevState) : (s.setDevState v).draws = s.draws := rfl

@[simp] theorem State.setTickFlag_btnState (v : Bool) : (s.setTickFlag v).btnState = s.btnState := rfl
@[simp] theorem State.setTickFlag_btnConf (v : Bool) : (s.setTickFlag v).btnConf = s.btnConf := rfl
@[simp] theorem State.setTickFlag_devState (v : Bool) : (s.setTickFlag v).devState = s.devState := rfl
@[simp] theorem State.setTickFlag_tickFlag (v : Bool) : (s.setTickFlag v).tickFlag = v := rfl
@[simp] theorem State.setTickFlag_elapsed (v : Bool) : (s.setTickFlag v).elapsed = s.elapsed := rfl
@[simp] theorem State.setTickFlag_buzzer (v : Bool) : (s.setTickFlag v).buzzer = s.buzzer := rfl
@[simp] theorem State.setTickFlag_led (v : Bool) : (s.setTickFlag v).led = s.led := rfl
@[simp] theorem State.setTickFlag_fire (v : Bool) : (s.setTickFlag v).fire = s.fire := rfl
@[simp] theorem State.setTickFlag_cfg (v : Bool) : (s.setTickFlag v).cfg = s.cfg := rfl
@[simp] theorem State.setTickFlag_trace (v : Bool) : (s.setTickFlag v).trace = s.trace := rfl
@[simp] theorem State.setTickFlag_draws (v : Bool) : (s.setTickFlag v).draws = s.draws := rfl

@[simp] theorem State.setElapsed_btnState (v : TickCount) : (s.setElapsed v).btnState = s.btnState := rfl
@[simp] theorem State.setElapsed_btnConf (v : TickCount) : (s.setElapsed v).btnConf = s.btnConf := rfl
@[simp] theorem State.setElapsed_devState (v : TickCount) : (s.setElapsed v).devState = s.devState := rfl
@[simp] theorem State.setElapsed_tickFlag (v : TickCount) : (s.setElapsed v).tickFlag = s.tickFlag := rfl
@[simp] theorem State.setElapsed_elapsed (v : TickCount) : (s.setElapsed v).elapsed = v := rfl
@[simp] theorem State.setElapsed_buzzer (v : TickCount) : (s.setElapsed v).buzzer = s.buzzer := rfl
@[simp] theorem State.setElapsed_led (v : TickCount) : (s.setElapsed v).led = s.led := rfl
@[simp] theorem State.setElapsed_fire (v : TickCount) : (s.setElapsed v).fire = s.fire := rfl
@[simp] theorem State.setElapsed_cfg (v : TickCount) : (s.setElapsed v).cfg = s.cfg := rfl
@[simp] theorem State.setElapsed_trace (v : TickCount) : (s.setElapsed v).trace = s.trace := rfl
@[simp] theorem State.setElapsed_draws (v : TickCount) : (s.setElapsed v).draws = s.draws := rfl

@[simp] theorem State.setBuzzer_btnState (v : Bool) : (s.setBuzzer v).btnState = s.btnState := rfl
@[simp] theorem State.setBuzzer_btnConf (v : Bool) : (s.setBuzzer v).btnConf = s.btnConf := rfl
@[simp] theorem State.setBuzzer_devState (v : Bool) : (s.setBuzzer v).devState = s.devState := rfl
@[simp] theorem State.setBuzzer_tickFlag (v : Bool) : (s.setBuzzer v).tickFlag = s.tickFlag := rfl
@[simp] theorem State.setBuzzer_elapsed (v : Bool) : (s.setBuzzer v).elapsed = s.elapsed := rfl
@[simp] theorem State.setBuzzer_buzzer (v : Bool) : (s.setBuzzer v).buzzer = v := rfl
@[simp] theorem State.setBuzzer_led (v : Bool) : (s.setBuzzer v).led = s.led := rfl
@[simp] theorem State.setBuzzer_fire (v : Bool) : (s.setBuzzer v).fire = s.fire := rfl
@[simp] theorem State.setBuzzer_cfg (v : Bool) : (s.setBuzzer v).cfg = s.cfg := rfl
@[simp] theorem State.setBuzzer_trace (v : Bool) : (s.setBuzzer v).trace = s.trace := rfl
@[simp] theorem State.setBuzzer_draws (v : Bool) : (s.setBuzzer v).draws = s.draws := rfl

@[simp] theorem State.setLed_btnState (v : Bool) : (s.setLed v).btnState = s.btnState := rfl
@[simp] theorem State.setLed_btnConf (v : Bool) : (s.setLed v).btnConf = s.btnConf := rfl
@[simp] theorem State.setLed_devState (v : Bool) : (s.setLed v).devState = s.devState := rfl
@[simp] theorem State.setLed_tickFlag (v : Bool) : (s.setLed v).tickFlag = s.tickFlag := rfl
@[simp] theorem State.setLed_elapsed (v : Bool) : (s.setLed v).elapsed = s.elapsed := rfl
@[simp] theorem State.setLed_buzzer (v : Bool) : (s.setLed v).buzzer = s.buzzer := rfl
@[simp] theorem State.setLed_led (v : Bool) : (s.setLed v).led = v := rfl
@[simp] theorem State.setLed_fire (v : Bool) : (s.setLed v).fire = s.fire := rfl
@[simp] theorem State.setLed_cfg (v : Bool) : (s.setLed v).cfg = s.cfg := rfl
@[simp] theorem State.setLed_trace (v : Bool) : (s.setLed v).trace = s.trace := rfl
@[simp] theorem State.setLed_draws (v : Bool) : (s.setLed v).draws = s.draws := rfl

@[simp] theorem State.setFire_btnState (v : Bool) : (s.setFire v).btnState = s.btnState := rfl
@[simp] theorem State.setFire_btnConf (v : Bool) : (s.setFire v).btnConf = s.btnConf := rfl
@[simp] theorem State.setFire_devState (v : Bool) : (s.setFire v).devState = s.devState := rfl
@[simp] theorem State.setFire_tickFlag (v : Bool) : (s.setFire v).tickFlag = s.tickFlag := rfl
@[simp] theorem State.setFire_elapsed (v : Bool) : (s.setFire v).elapsed = s.elapsed := rfl
@[simp] theorem State.setFire_buzzer (v : Bool) : (s.setFire v).buzzer = s.buzzer := rfl
@[simp] theorem State.setFire_led (v : Bool) : (s.setFire v).led = s.led := rfl
@[simp] theorem State.setFire_fire (v : Bool) : (s.setFire v).fire = v := rfl
@[simp] theorem State.setFire_cfg (v : Bool) : (s.setFire v).cfg = s.cfg := rfl
@[simp] theorem State.setFire_trace (v : Bool) : (s.setFire v).trace = s.trace := rfl
@[simp] theorem State.setFire_draws (v : Bool) : (s.setFire v).draws = s.draws := rfl

@[simp] theorem State.resetBlock_btnState : s.resetBlock.btnState = .unpressed := rfl
@[simp] theorem State.resetBlock_btnConf : s.resetBlock.btnConf = 0 := rfl
@[simp] theorem State.resetBlock_devState : s.resetBlock.devState = .off := rfl
@[simp] theorem State.resetBlock_tickFlag : s.resetBlock.tickFlag = false := rfl
@[simp] theorem State.resetBlock_elapsed : s.resetBlock.elapsed = 0 := rfl
@[simp] theorem State.resetBlock_buzzer : s.resetBlock.buzzer = s.cfg.buzzerInit := rfl
@[simp] theorem State.resetBlock_led : s.resetBlock.led = s.cfg.ledInit := rfl
@[simp] theorem State.resetBlock_fire : s.resetBlock.fire = false := rfl
@[simp] theorem State.resetBlock_cfg : s.resetBlock.cfg = s.cfg := rfl
@[simp] theorem State.resetBlock_trace : s.resetBlock.trace = s.trace := rfl
@[simp] theorem State.resetBlock_draws : s.resetBlock.draws = s.draws := rfl

@[simp] theorem State.raiseTick_btnState : s.raiseTick.btnState = s.btnState := rfl
@[simp] theorem State.raiseTick_btnConf : s.raiseTick.btnConf = s.btnConf := rfl
@[simp] theorem State.raiseTick_devState : s.raiseTick.devState = s.devState := rfl
@[simp] theorem State.raiseTick_tickFlag : s.raiseTick.tickFlag = true := rfl
@[simp] theorem State.raiseTick_elapsed : s.raiseTick.elapsed = s.elapsed := rfl
@[simp] theorem State.raiseTick_buzzer : s.raiseTick.buzzer = s.buzzer := rfl
@[simp] theorem State.raiseTick_led : s.raiseTick.led = s.led := rfl
@[simp] theorem State.raiseTick_fire : s.raiseTick.fire = s.fire := rfl
@[simp] theorem State.raiseTick_cfg : s.raiseTick.cfg = s.cfg := rfl
@[simp] theorem State.raiseTick_trace : s.raiseTick.trace = s.trace := rfl
@[simp] theorem State.raiseTick_draws : s.raiseTick.draws = s.draws := rfl

@[simp] theorem State.present_btnState (w : CmdWord) : (s.present w).btnState = s.btnState := rfl
@[simp] theorem State.present_btnConf (w : CmdWord) : (s.present w).btnConf = s.btnConf := rfl
@[simp] theorem State.present_devState (w : CmdWord) : (s.present w).devState = s.devState := rfl
@[simp] theorem State.present_tickFlag (w : CmdWord) : (s.present w).tickFlag = s.tickFlag := rfl
@[simp] theorem State.present_elapsed (w : CmdWord) : (s.present w).elapsed = s.elapsed := rfl
@[simp] theorem State.present_buzzer (w : CmdWord) : (s.present w).buzzer = s.buzzer := rfl
@[simp] theorem State.present_led (w : CmdWord) : (s.present w).led = s.led := rfl
@[simp] theorem State.present_fire (w : CmdWord) : (s.present w).fire = s.fire := rfl
@[simp] theorem State.present_cfg (w : CmdWord) : (s.present w).cfg = s.cfg := rfl
@[simp] theorem State.present_trace (w : CmdWord) : (s.present w).trace = w :: s.trace := rfl
@[simp] theorem State.present_draws (w : CmdWord) : (s.present w).draws = s.draws := rfl

end Sys2Proof.Machine
end

