-- ==== Sys2Proof/Laws/Ops.lean ====
section
/-! SUPPORT. What the shared operations can do, said once: how a meaning ends, what each micro-operation leaves
unchanged, and the cases of `DEB`, `TCK`, `FSM` and the reading of the ports. -/

namespace Sys2Proof.Machine

/-! ### How a meaning ends -/

/-- A meaning that ends in `t` answers `t'` exactly when the build is legal and `t'` is `t` (R224). -/
@[simp] theorem State.complete_eq_next (s t t' : State) :
    s.complete t = .next t' ↔ s.cfg.Valid ∧ t = t' := by
  unfold State.complete
  split
  · rename_i h; exact ⟨fun e => ⟨h, by injection e⟩, fun e => by rw [e.2]⟩
  · rename_i h; exact ⟨(fun e => nomatch e), fun e => absurd e.1 h⟩

/-- On a legal build a meaning that ends in `t` answers `t` (R224). -/
theorem State.complete_of_valid {s : State} (h : s.cfg.Valid) (t : State) : s.complete t = .next t := if_pos h

/-- An arm's meaning answers `t'` exactly when its rule selects it, the build is legal and `t'` is its effect. -/
@[simp] theorem State.completeArm_eq_next (s : State) (arm : String) (sel : Bool) (t t' : State) :
    s.completeArm arm sel t = .next t' ↔ sel = true ∧ s.cfg.Valid ∧ t = t' := by
  unfold State.completeArm
  cases sel
  · exact ⟨(fun e => nomatch e), (fun e => nomatch e.1)⟩
  · rw [if_pos rfl, State.complete_eq_next]; simp only [true_and]

/-! ### DEB -/

/-- `DEB` writes `btn_state` and `btn_conf` and nothing else (R100). -/
theorem deb_frame (b : Bool) (s : State) :
    deb b s = { s with btnState := (deb b s).btnState, btnConf := (deb b s).btnConf } := by
  unfold deb
  cases s.btnState <;> cases b <;> simp only [Bool.false_eq_true, if_true, if_false] <;>
    first
      | rfl
      | (split <;> rfl)

@[simp] theorem deb_devState (b : Bool) (s : State) : (deb b s).devState = s.devState := by rw [deb_frame]
@[simp] theorem deb_tickFlag (b : Bool) (s : State) : (deb b s).tickFlag = s.tickFlag := by rw [deb_frame]
@[simp] theorem deb_elapsed (b : Bool) (s : State) : (deb b s).elapsed = s.elapsed := by rw [deb_frame]
@[simp] theorem deb_buzzer (b : Bool) (s : State) : (deb b s).buzzer = s.buzzer := by rw [deb_frame]
@[simp] theorem deb_led (b : Bool) (s : State) : (deb b s).led = s.led := by rw [deb_frame]
@[simp] theorem deb_fire (b : Bool) (s : State) : (deb b s).fire = s.fire := by rw [deb_frame]
@[simp] theorem deb_cfg (b : Bool) (s : State) : (deb b s).cfg = s.cfg := by rw [deb_frame]
@[simp] theorem deb_trace (b : Bool) (s : State) : (deb b s).trace = s.trace := by rw [deb_frame]
@[simp] theorem deb_draws (b : Bool) (s : State) : (deb b s).draws = s.draws := by rw [deb_frame]

/-- The nine arms of `DEB`: the state that selects each, and the channel it leaves (R101 to R109). -/
theorem deb_cases (b : Bool) (s : State) :
    (s.btnState = .unpressed ∧ b = true ∧ deb b s = debUp s) ∨
    (s.btnState = .unpressed ∧ b = false ∧ deb b s = s) ∨
    (s.btnState = .pressPending ∧ b = true ∧ deb b s = debPp s) ∨
    (s.btnState = .pressPending ∧ b = false ∧ s.btnConf = s.cfg.debounceThreshold ∧ deb b s = debPrc s) ∨
    (s.btnState = .pressPending ∧ b = false ∧ s.btnConf ≠ s.cfg.debounceThreshold ∧ deb b s = debPrb s) ∨
    (s.btnState = .releasePending ∧ b = true ∧ deb b s = debRp s) ∨
    (s.btnState = .releasePending ∧ b = false ∧ s.btnConf + 1 < s.cfg.debounceThreshold ∧ deb b s = debRrn s) ∨
    (s.btnState = .releasePending ∧ b = false ∧ s.cfg.debounceThreshold ≤ s.btnConf + 1 ∧ deb b s = debRrc s) ∨
    (s.btnState = .pressed ∧ deb b s = s) := by
  cases hq : s.btnState <;> cases b <;> simp [deb, hq, debUr, debL]
  · by_cases h : s.btnConf = s.cfg.debounceThreshold <;> simp [h, confFull]
  · by_cases h : s.btnConf + 1 < s.cfg.debounceThreshold
    · have h1 : ¬ s.cfg.debounceThreshold ≤ s.btnConf + 1 := by omega
      simp [h, h1, confFills, nextConf]
    · have h1 : s.cfg.debounceThreshold ≤ s.btnConf + 1 := by omega
      simp [h1, confFills, nextConf]

/-! ### The counter, the comparator and TCK -/

/-- Below its top the counter counts (R137). -/
theorem incTicks_of_lt (o : Overflow) (e : TickCount) (h : e.toNat < tickTop) :
    (incTicks o e).toNat = e.toNat + 1 := by
  have h1 : (1 : TickCount).toNat = 1 := rfl
  simp only [incTicks, h, if_true, BitVec.toNat_add, h1]
  unfold tickTop at h
  omega

/-- At its top the counter stays or starts again, as the build says (R137). -/
theorem incTicks_of_top (o : Overflow) (e : TickCount) (h : ¬ e.toNat < tickTop) :
    incTicks o e = match o with | .saturate => e | .wrap => 0 := by
  cases o <;> simp only [incTicks, h, if_false]

/-- The fire check writes `fire`, to 1 only (R139). -/
theorem fireCheck_eq (s : State) :
    fireCheck s = { s with fire := if s.cfg.cutdownTicks < s.elapsed.toNat then true else s.fire } := by
  by_cases h : s.cfg.cutdownTicks < s.elapsed.toNat <;> simp [fireCheck, ticksExceed, h, State.setFire]

/-- The per-tick work, field by field (R136 to R139). -/
theorem tickWork_eq (s : State) :
    tickWork s = { s with
      elapsed := incTicks s.cfg.overflow s.elapsed, buzzer := !s.buzzer, led := !s.led,
      fire := if s.cfg.cutdownTicks < (incTicks s.cfg.overflow s.elapsed).toNat then true else s.fire } := by
  simp only [tickWork, fireCheck_eq]; rfl

/-- `TCK` clears the flag and, on a pending tick in `Running`, does the per-tick work; nothing else (R131, R132). -/
theorem tck_cases (s : State) :
    (s.tickFlag = true ∧ s.devState = .running ∧ tck s = tickWork (s.setTickFlag false)) ∨
    (¬ (s.tickFlag = true ∧ s.devState = .running) ∧ tck s = s.setTickFlag false) := by
  by_cases h : s.tickFlag = true ∧ s.devState = .running
  · simp [tck, readAndClearTick, h.1, h.2]
  · right
    refine ⟨h, ?_⟩
    cases ht : s.tickFlag <;> simp_all [tck, readAndClearTick]

@[simp] theorem tck_tickFlag (s : State) : (tck s).tickFlag = false := by
  rcases tck_cases s with ⟨-, -, h⟩ | ⟨-, h⟩ <;> rw [h] <;> simp [tickWork_eq]

@[simp] theorem tck_btnState (s : State) : (tck s).btnState = s.btnState := by
  rcases tck_cases s with ⟨-, -, h⟩ | ⟨-, h⟩ <;> rw [h] <;> simp [tickWork_eq]

@[simp] theorem tck_btnConf (s : State) : (tck s).btnConf = s.btnConf := by
  rcases tck_cases s with ⟨-, -, h⟩ | ⟨-, h⟩ <;> rw [h] <;> simp [tickWork_eq]

@[simp] theorem tck_devState (s : State) : (tck s).devState = s.devState := by
  rcases tck_cases s with ⟨-, -, h⟩ | ⟨-, h⟩ <;> rw [h] <;> simp [tickWork_eq]

@[simp] theorem tck_cfg (s : State) : (tck s).cfg = s.cfg := by
  rcases tck_cases s with ⟨-, -, h⟩ | ⟨-, h⟩ <;> rw [h] <;> simp [tickWork_eq]

@[simp] theorem tck_trace (s : State) : (tck s).trace = s.trace := by
  rcases tck_cases s with ⟨-, -, h⟩ | ⟨-, h⟩ <;> rw [h] <;> simp [tickWork_eq]

@[simp] theorem tck_draws (s : State) : (tck s).draws = s.draws := by
  rcases tck_cases s with ⟨-, -, h⟩ | ⟨-, h⟩ <;> rw [h] <;> simp [tickWork_eq]

/-! ### FSM -/

/-- The four arms of `FSM` (R151 to R154). -/
theorem fsm_cases (s : State) :
    (s.devState = .off ∧ s.btnState = .pressed ∧ fsm s = fsmArm s) ∨
    (s.devState = .off ∧ s.btnState ≠ .pressed ∧ fsm s = s) ∨
    (s.devState = .startRunning ∧ fsm s = fsmSr s) ∨
    (s.devState = .running ∧ fsm s = s) := by
  cases hd : s.devState <;> simp [fsm, hd, fsmOff, fsmRun]
  by_cases h : s.btnState = .pressed <;> simp [h]

/-- `FSM` writes `dev_state` and `btn_state` and nothing else (R150). -/
theorem fsm_frame (s : State) :
    fsm s = { s with devState := (fsm s).devState, btnState := (fsm s).btnState } := by
  rcases fsm_cases s with ⟨-, -, h⟩ | ⟨-, -, h⟩ | ⟨-, h⟩ | ⟨-, h⟩ <;> rw [h] <;> rfl

@[simp] theorem fsm_btnConf (s : State) : (fsm s).btnConf = s.btnConf := by rw [fsm_frame]
@[simp] theorem fsm_tickFlag (s : State) : (fsm s).tickFlag = s.tickFlag := by rw [fsm_frame]
@[simp] theorem fsm_elapsed (s : State) : (fsm s).elapsed = s.elapsed := by rw [fsm_frame]
@[simp] theorem fsm_buzzer (s : State) : (fsm s).buzzer = s.buzzer := by rw [fsm_frame]
@[simp] theorem fsm_led (s : State) : (fsm s).led = s.led := by rw [fsm_frame]
@[simp] theorem fsm_fire (s : State) : (fsm s).fire = s.fire := by rw [fsm_frame]
@[simp] theorem fsm_cfg (s : State) : (fsm s).cfg = s.cfg := by rw [fsm_frame]
@[simp] theorem fsm_trace (s : State) : (fsm s).trace = s.trace := by rw [fsm_frame]
@[simp] theorem fsm_draws (s : State) : (fsm s).draws = s.draws := by rw [fsm_frame]

/-! ### The ports -/

/-- The next command word is the first announced one, or a free one; only `trace` and `draws` move (R17, R173). -/
theorem readPorts_cases (s : State) :
    (∃ w ws, s.trace = w :: ws ∧ s.readPorts = (w, { s with trace := ws })) ∨
    (s.trace = [] ∧ s.readPorts = (Config.envWord s.draws, { s with draws := s.draws + 1 })) := by
  cases h : s.trace with
  | nil => right; simp [State.readPorts, h]
  | cons w ws => left; exact ⟨w, ws, rfl, by simp [State.readPorts, h]⟩

end Sys2Proof.Machine
end

