-- ==== Sys2Proof/Laws/PerInstr.lean ====
section
/-! SUPPORT. A family of statements with one lemma per instruction: the canonical word of an instruction fits its
format, is not reserved, and has the fixed bits of the instruction's row of the opcode table (R75, R80, R84). -/

namespace Sys2Proof.Laws.CanonicalWord

/-- The canonical word of `i` is well formed and lies in `i`'s row. -/
def Statement (i : Instr) : Prop :=
  (encode i).WellFormed ∧ rowMatches (opcodeRow i) (encode i) = true

theorem reset : Statement .reset := by unfold Statement; decide

theorem nop : Statement .nop := by unfold Statement; decide

theorem tick : Statement .tick := by unfold Statement; decide

theorem step (b : Bool) : Statement (.step b) := by unfold Statement; cases b <;> decide

theorem stept (b : Bool) : Statement (.stept b) := by unfold Statement; cases b <;> decide

theorem debUp : Statement .debUp := by unfold Statement; decide

theorem debUr : Statement .debUr := by unfold Statement; decide

theorem debPp : Statement .debPp := by unfold Statement; decide

theorem debPrc : Statement .debPrc := by unfold Statement; decide

theorem debPrb : Statement .debPrb := by unfold Statement; decide

theorem debRp : Statement .debRp := by unfold Statement; decide

theorem debRrn : Statement .debRrn := by unfold Statement; decide

theorem debRrc : Statement .debRrc := by unfold Statement; decide

theorem debL : Statement .debL := by unfold Statement; decide

theorem tckN : Statement .tckN := by unfold Statement; decide

theorem tckO : Statement .tckO := by unfold Statement; decide

theorem tckS : Statement .tckS := by unfold Statement; decide

theorem tckR : Statement .tckR := by unfold Statement; decide

theorem fsmOff : Statement .fsmOff := by unfold Statement; decide

theorem fsmArm : Statement .fsmArm := by unfold Statement; decide

theorem fsmSr : Statement .fsmSr := by unfold Statement; decide

theorem fsmRun : Statement .fsmRun := by unfold Statement; decide

end Sys2Proof.Laws.CanonicalWord
end

