-- ==== Sys2Proof/Tests/Slice0.lean ====
section
/-! SUPPORT. Tests: ill-formed terms are refused, words written from the spec's patterns decode, vectors of
spec/95_test_vectors.md (their ids in the names' comments), and a witness for the hypotheses of each statement. -/

namespace Sys2Proof.Tests

open Sys2Proof.Machine

/-- The build of the vectors: `T` = 3, `C` = 2, `saturate`, both outputs 0 (95, introduction). -/
def small : Config := ⟨3, 2, .saturate, false, false⟩

/-- The smallest legal build: `T` = 1, `C` = 0 (R5, R6). -/
def tiny : Config := ⟨1, 0, .saturate, false, false⟩

/-- A state row in the fixed order of 95, on the build `small`. -/
def row (q : BtnState) (n : Nat) (d : DevState) (f : Bool) (e : TickCount) (bz l fr : Bool) : State :=
  ⟨q, n, d, f, e, bz, l, fr, small, [], 0⟩

/-- A row on another build. -/
def rowOn (c : Config) (q : BtnState) (n : Nat) (d : DevState) (f : Bool) (e : TickCount) (bz l fr : Bool) : State :=
  ⟨q, n, d, f, e, bz, l, fr, c, [], 0⟩

/-- A device in `Off` with a channel. -/
def chan (q : BtnState) (n : Nat) : State := row q n .off false 0 false false false

/-- The next state of an outcome, if it is one. -/
def after : Host.Outcome State Fault Refusal → Option State
  | .next t => some t
  | .fault _ => none
  | .refused _ => none

/-- The name of a refusal, if the outcome is one. -/
def refusal : Host.Outcome State Fault Refusal → Option Refusal
  | .next _ => none
  | .fault _ => none
  | .refused r => some r

/-! ### Well-formedness: an ill-formed term for each check -/

theorem test_threshold_zero_refused : ¬ (Config.mk 0 2 .saturate false false).Valid := by decide

theorem test_cutdown_at_top_refused : ¬ (Config.mk 3 4294967295 .saturate false false).Valid := by decide

theorem test_boundary_builds_legal :
    (Config.mk 1 4294967294 .wrap true false).Valid ∧ Config.reference.Valid ∧ small.Valid ∧ tiny.Valid := by decide

theorem test_too_wide_words_refused :
    ¬ (TableWord.mk .cmd 16).WellFormed ∧ ¬ (TableWord.mk .debArm 32).WellFormed ∧
    ¬ (TableWord.mk .tckArm 8).WellFormed ∧ ¬ (TableWord.mk .fsmArm 8).WellFormed := by decide

theorem test_reserved_words_refused :
    ¬ (TableWord.mk .tckArm 0b111).WellFormed ∧ ¬ (TableWord.mk .fsmArm 0b110).WellFormed ∧
    ¬ (TableWord.mk .fsmArm 0b111).WellFormed := by decide

theorem test_empty_counts_refused :
    (Pseudo.press 0).wellFormed = false ∧ (Pseudo.release 0).wellFormed = false ∧
    (Pseudo.wait 0).wellFormed = false ∧ (Pseudo.ticks 0).wellFormed = false := by decide

/-! ### Decoding: words written from the patterns of R75 and R84 -/

theorem test_decode_reset : decodeCmd 0b1000 = .reset ∧ decodeCmd 0b1111 = .reset := by decide

theorem test_decode_nop : decodeCmd 0b0000 = .nop ∧ decodeCmd 0b0001 = .nop := by decide

theorem test_decode_tick : decodeCmd 0b0010 = .tick ∧ decodeCmd 0b0011 = .tick := by decide

theorem test_decode_step : decodeCmd 0b0100 = .step false ∧ decodeCmd 0b0101 = .step true := by decide

theorem test_decode_stept : decodeCmd 0b0110 = .stept false ∧ decodeCmd 0b0111 = .stept true := by decide

theorem test_decode_deb_arms :
    decodeDebArm 0b00110 = .debUp ∧ decodeDebArm 0b00001 = .debUr ∧ decodeDebArm 0b01101 = .debPp ∧
    decodeDebArm 0b01011 = .debPrc ∧ decodeDebArm 0b01001 = .debPrb ∧ decodeDebArm 0b10111 = .debRp ∧
    decodeDebArm 0b10010 = .debRrn ∧ decodeDebArm 0b10001 = .debRrc ∧ decodeDebArm 0b11011 = .debL := by decide

theorem test_decode_tck_arms :
    decodeTckArm 0b010 = some .tckN ∧ decodeTckArm 0b100 = some .tckO ∧ decodeTckArm 0b101 = some .tckS ∧
    decodeTckArm 0b110 = some .tckR := by decide

theorem test_decode_fsm_arms :
    decodeFsmArm 0b000 = some .fsmOff ∧ decodeFsmArm 0b001 = some .fsmArm ∧ decodeFsmArm 0b011 = some .fsmSr ∧
    decodeFsmArm 0b101 = some .fsmRun := by decide

theorem test_decode_rejects :
    decode ⟨.cmd, 16⟩ = .error .tooWide ∧ decode ⟨.debArm, 32⟩ = .error .tooWide ∧
    decode ⟨.tckArm, 0b111⟩ = .error .reservedDevState ∧ decode ⟨.fsmArm, 0b110⟩ = .error .reservedDevState := by
  decide

theorem test_table_word :
    decodeTableWord 8 0b0101 = some (.step true) ∧ decodeTableWord 8 0b10001 = some .debRrc ∧
    decodeTableWord 8 32 = none ∧ decodeTableWord 8 256 = none := by decide

/-- The encoding of program P1 of 95, `ARM ; TICKS 3` at `T` = 3. -/
theorem test_assemble_p1 :
    String.ofList ((assemble 3 [.arm, .ticks 3]).map hexDigit) = "555544444242424" := by decide

/-! ### Placing a word for the next step -/

theorem test_fetch_tick :
    (after (step (State.reset.withFetchWord 8 0b0010))).map (·.tickFlag) = some true := by decide

theorem test_fetch_deb_rrc :
    (after (step ((chan .unpressed 0).withFetchWord 8 0b10001))).map (·.devState) = some .startRunning := by decide

/-- The word `10010` lies in the row of `DEB.RRN` (R84), so its placing runs that arm (D12). -/
theorem test_fetch_deb_rrn :
    (after (step ((chan .unpressed 0).withFetchWord 8 0b10010))).map (fun t => (t.btnState, t.btnConf)) =
      some (.releasePending, 1) := by decide

/-! ### Vectors of 95, part 2 -/

/-- D1. -/
theorem test_deb_up : after (exec .debUp (chan .unpressed 0)) = some (chan .pressPending 0) := by decide

/-- D2. -/
theorem test_deb_ur : after (exec .debUr (chan .unpressed 0)) = some (chan .unpressed 0) := by decide

/-- D7, D9. -/
theorem test_deb_pp :
    after (exec .debPp (chan .pressPending 2)) = some (chan .pressPending 3) ∧
    after (exec .debPp (chan .pressPending 3)) = some (chan .pressPending 3) := by decide

/-- D10, and the arm refused one count short (D8). -/
theorem test_deb_prc :
    after (exec .debPrc (chan .pressPending 3)) = some (chan .releasePending 0) ∧
    refusal (exec .debPrc (chan .pressPending 2)) = some (.armNotSelected "DEB.PRC") := by decide

/-- D8. -/
theorem test_deb_prb : after (exec .debPrb (chan .pressPending 2)) = some (chan .pressPending 0) := by decide

/-- D15. -/
theorem test_deb_rp : after (exec .debRp (chan .releasePending 2)) = some (chan .releasePending 0) := by decide

/-- D14, and the arm refused at the commit (D16). -/
theorem test_deb_rrn :
    after (exec .debRrn (chan .releasePending 1)) = some (chan .releasePending 2) ∧
    refusal (exec .debRrn (chan .releasePending 2)) = some (.armNotSelected "DEB.RRN") := by decide

/-- D16; D34 with `T` = 1. -/
theorem test_deb_rrc :
    after (exec .debRrc (chan .releasePending 2)) = some (chan .pressed 0) ∧
    after (exec .debRrc (rowOn tiny .releasePending 0 .off false 0 false false false)) =
      some (rowOn tiny .pressed 0 .off false 0 false false false) := by decide

/-- D17. -/
theorem test_deb_l : after (exec .debL (chan .pressed 0)) = some (chan .pressed 0) := by decide

/-- K8: a count equal to `C` with nothing pending does not fire. -/
theorem test_tck_n :
    after (exec .tckN (row .unpressed 0 .running false 2 false false false)) =
      some (row .unpressed 0 .running false 2 false false false) := by decide

/-- K2. -/
theorem test_tck_o :
    after (exec .tckO (row .unpressed 0 .off true 0 false false false)) =
      some (row .unpressed 0 .off false 0 false false false) := by decide

/-- K4. -/
theorem test_tck_s :
    after (exec .tckS (row .unpressed 0 .startRunning true 0 false false false)) =
      some (row .unpressed 0 .startRunning false 0 false false false) := by decide

/-- K7, K9: the strict comparison. -/
theorem test_tck_r :
    after (exec .tckR (row .unpressed 0 .running true 1 true true false)) =
      some (row .unpressed 0 .running false 2 false false false) ∧
    after (exec .tckR (row .unpressed 0 .running true 2 false false false)) =
      some (row .unpressed 0 .running false 3 true true true) := by decide

/-- K18, K19: the counter's top under either choice. -/
theorem test_tck_r_top :
    after (exec .tckR (row .unpressed 0 .running true 4294967295 true true true)) =
      some (row .unpressed 0 .running false 4294967295 false false true) ∧
    after (exec .tckR (rowOn { small with overflow := .wrap } .unpressed 0 .running true 4294967295 true true true)) =
      some (rowOn { small with overflow := .wrap } .unpressed 0 .running false 0 false false true) := by decide

/-- F3. -/
theorem test_fsm_off : after (exec .fsmOff (chan .releasePending 1)) = some (chan .releasePending 1) := by decide

/-- F4. -/
theorem test_fsm_arm :
    after (exec .fsmArm (chan .pressed 0)) = some (row .unpressed 0 .startRunning false 0 false false false) := by
  decide

/-- F8. -/
theorem test_fsm_sr :
    after (exec .fsmSr (row .pressed 0 .startRunning false 0 false false false)) =
      some (row .pressed 0 .running false 0 false false false) := by decide

/-- F12. -/
theorem test_fsm_run :
    after (exec .fsmRun (row .pressed 0 .running false 0 false false false)) =
      some (row .pressed 0 .running false 0 false false false) := by decide

/-- K16, K17. -/
theorem test_tick :
    after (exec .tick (row .unpressed 0 .running false 1 true true false)) =
      some (row .unpressed 0 .running true 1 true true false) ∧
    after (exec .tick (row .unpressed 0 .running true 1 true true false)) =
      some (row .unpressed 0 .running true 1 true true false) := by decide

/-- O1: commit, tick dropped, arm, in one iteration. -/
theorem test_step_commit :
    after (exec (.step false) (row .releasePending 2 .off true 0 false false false)) =
      some (row .unpressed 0 .startRunning false 0 false false false) := by decide

/-- O4: a commit in `Running` is not consumed. -/
theorem test_step_later_commit :
    after (exec (.step false) (row .releasePending 2 .running false 1 true true false)) =
      some (row .pressed 0 .running false 1 true true false) := by decide

/-- O7: the old tick counted, the new one pending. -/
theorem test_stept_counts_and_pends :
    after (exec (.stept false) (row .unpressed 0 .running true 0 false false false)) =
      some (row .unpressed 0 .running true 1 true true false) := by decide

/-- O8: the tick of the cycle is not seen by its iteration. -/
theorem test_stept_tick_comes_after :
    after (exec (.stept true) (row .unpressed 0 .running false 2 false false false)) =
      some (row .pressPending 0 .running true 2 false false false) := by decide

/-- O9. -/
theorem test_nop :
    after (exec .nop (row .unpressed 0 .running true 2 false false false)) =
      some (row .unpressed 0 .running true 2 false false false) := by decide

/-- O11, O12. -/
theorem test_reset :
    after (exec .reset (row .pressed 0 .running true 201 true true true)) = some (State.resetOf small) ∧
    after (exec (decodeCmd 0b1111) (row .pressed 0 .running true 201 true true true)) =
      some (State.resetOf small) := by decide

/-! ### Witnesses

A statement whose one hypothesis is a legal build has `witness_legal_build`: `ResetWritesAllEight`, `NopChangesNothing`,
`TickSetsFlagOnly`, `ResetWinsOverOtherInputs`, `ClockEdgeIsCyclePseudocode`,
`DebRunsItsSelectedArm`, `TckRunsItsSelectedArm`, `FsmRunsItsSelectedArm`, `StepIsThreeSelectedArms`,
`StepAlwaysCompletes`, `ResetStateMeetsInvariants`, `ArmTraceReachesRunning`. The others are named one by one. -/

theorem witness_legal_build : State.reset.cfg.Valid ∧ (rowOn tiny .unpressed 0 .off false 0 false false false).cfg.Valid := by
  decide

theorem witness_TickOnSetFlagMerges :
    (row .unpressed 0 .running true 1 true true false).cfg.Valid ∧
    (row .unpressed 0 .running true 1 true true false).tickFlag = true := by decide

/-- The legal build, and a state for each row: the channel's rows with the counts where they part, the device states,
and a pending tick in `Running` below the top and at it, under either choice, on either side of `C`. -/
theorem witness_IterationNextState :
    small.Valid ∧
    ((chan .unpressed 0).btnState = .unpressed ∧ (chan .pressPending 3).btnState = .pressPending ∧
      (chan .pressPending 3).btnConf = small.debounceThreshold ∧
      (chan .pressPending 2).btnConf ≠ small.debounceThreshold) ∧
    ((chan .releasePending 1).btnConf + 1 < small.debounceThreshold ∧
      ¬ (chan .releasePending 2).btnConf + 1 < small.debounceThreshold ∧ (chan .releasePending 2).devState = .off ∧
      (row .releasePending 2 .running false 0 false false false).devState ≠ .off) ∧
    ((chan .pressed 0).btnState = .pressed ∧ (row .pressed 0 .startRunning false 0 false false false).devState ≠ .off) ∧
    ((row .unpressed 0 .running true 1 true true false).tickFlag = true ∧
      (row .unpressed 0 .running true 1 true true false).elapsed.toNat < 2 ^ 32 - 1 ∧
      ¬ small.cutdownTicks < (row .unpressed 0 .running true 1 true true false).elapsed.toNat + 1 ∧
      small.cutdownTicks < (row .unpressed 0 .running true 2 false false false).elapsed.toNat + 1) ∧
    (¬ (row .unpressed 0 .running true 4294967295 true true true).elapsed.toNat < 2 ^ 32 - 1 ∧
      small.overflow = .saturate ∧ { small with overflow := .wrap }.Valid) := by decide

theorem witness_SteptIsStepThenTick :
    small.Valid ∧ cmdRst 0b0110 = false ∧ cmdRst 0b0000 = false ∧ cmdRst 0b0111 = false := by decide

theorem witness_UnpressedArms : (chan .unpressed 0).cfg.Valid ∧ (chan .unpressed 0).btnState = .unpressed := by decide

/-- The clauses where they meet: `btn_conf` = `T`, and `T` - 1. -/
theorem witness_PressPendingArms :
    small.Valid ∧ (chan .pressPending 3).btnState = .pressPending ∧
    (chan .pressPending 3).btnConf = small.debounceThreshold ∧
    (chan .pressPending 2).btnConf < small.debounceThreshold := by decide

/-- The clauses where they meet: `btn_conf` = `T` - 2, and `T` - 1. -/
theorem witness_ReleasePendingArms :
    small.Valid ∧ (chan .releasePending 1).btnState = .releasePending ∧
    (chan .releasePending 1).btnConf + 1 < small.debounceThreshold ∧
    small.debounceThreshold ≤ (chan .releasePending 2).btnConf + 1 := by decide

theorem witness_PressedIsLatched : (chan .pressed 0).cfg.Valid ∧ (chan .pressed 0).btnState = .pressed := by decide

theorem witness_TickDroppingArms :
    small.Valid ∧ (chan .unpressed 0).tickFlag = false ∧
    (row .unpressed 0 .off true 0 false false false).tickFlag = true ∧
    (row .unpressed 0 .off true 0 false false false).devState = .off ∧
    (row .unpressed 0 .startRunning true 0 false false false).devState = .startRunning := by decide

/-- The hypotheses, and the premise of each clause about the count at its boundary. -/
theorem witness_TickCountingArm :
    let s := row .unpressed 0 .running true 4294967294 false false true
    let top := row .unpressed 0 .running true 4294967295 false false true
    let wrap := rowOn { small with overflow := .wrap } .unpressed 0 .running true 4294967295 false false true
    (s.cfg.Valid ∧ s.tickFlag = true ∧ s.devState = .running ∧ s.elapsed.toNat < 2 ^ 32 - 1) ∧
    (top.elapsed.toNat = 2 ^ 32 - 1 ∧ top.cfg.overflow = .saturate) ∧
    (wrap.cfg.Valid ∧ wrap.elapsed.toNat = 2 ^ 32 - 1 ∧ wrap.cfg.overflow = .wrap) := by decide

theorem witness_DeviceArms :
    small.Valid ∧ (chan .pressed 0).devState = .off ∧ (chan .pressed 0).btnState = .pressed ∧
    (chan .pressPending 1).btnState ≠ .pressed ∧
    (row .pressed 0 .startRunning false 0 false false false).devState = .startRunning ∧
    (row .pressed 0 .running false 0 false false false).devState = .running := by decide

theorem witness_ArmRunsOnlyWhereSelected :
    small.Valid ∧ commandWord .debUp = none ∧ after (exec .debUp (chan .unpressed 0)) ≠ none ∧
    after (exec .debUp (chan .pressed 0)) = none := by decide

theorem witness_EveryWordLiesInOneRow :
    (TableWord.mk .cmd 0b1111).WellFormed ∧ (TableWord.mk .debArm 0b11111).WellFormed ∧
    (TableWord.mk .tckArm 0b011).WellFormed ∧ (TableWord.mk .fsmArm 0b101).WellFormed := by decide

theorem witness_ReservedDeviceCodeRefused :
    (0b111 < 2 ^ Format.tckArm.width ∧ (TableWord.mk .tckArm 0b111).reserved = true) ∧
    (0b110 < 2 ^ Format.fsmArm.width ∧ (TableWord.mk .fsmArm 0b110).reserved = true) ∧
    (0b101 < 2 ^ Format.fsmArm.width ∧ (TableWord.mk .fsmArm 0b101).reserved = false) := by decide

theorem witness_StepRunsDecodedCommand :
    ((chan .unpressed 0).present 0b0101).trace = 0b0101 :: [] ∧ (chan .unpressed 0).trace = [] := by decide

theorem witness_BuildOutOfRangeRefused :
    ¬ (rowOn ⟨0, 2, .saturate, false, false⟩ .unpressed 0 .off false 0 false false false).cfg.Valid ∧
    ¬ (rowOn ⟨3, 4294967295, .wrap, false, false⟩ .unpressed 0 .off false 0 false false false).cfg.Valid := by decide

/-- For an iteration on a pending channel in `Running`, and for an arm by itself. -/
theorem witness_EveryInstructionKeepsInvariants :
    (row .pressPending 2 .running true 1 true true false).Inv ∧
    after (exec (.step true) (row .pressPending 2 .running true 1 true true false)) ≠ none ∧
    after (exec .tckR (row .pressPending 2 .running true 1 true true false)) ≠ none := by decide

theorem witness_StepKeepsInvariants :
    ((row .releasePending 2 .off true 0 false false false).present 0b0100).Inv ∧
    ((row .releasePending 2 .off true 0 false false false).present 0b0100).Settled ∧
    after (step ((row .releasePending 2 .off true 0 false false false).present 0b0100)) ≠ none := by decide

theorem witness_BuildNeverWritten : after (exec .tick (chan .unpressed 0)) ≠ none := by decide

/-- A next state for each premise: a reset, and a change of each element by an operation of its column. -/
theorem witness_WriteRights :
    after (exec .reset (chan .pressed 0)) ≠ none ∧
    after (exec .debPrc (chan .pressPending 3)) = some (chan .releasePending 0) ∧
    after (exec (.step false) (row .releasePending 2 .off true 0 false false false)) =
      some (row .unpressed 0 .startRunning false 0 false false false) ∧
    after (exec (.stept true) (chan .unpressed 0)) = some (row .pressPending 0 .off true 0 false false false) ∧
    after (exec .tckR (row .unpressed 0 .running true 2 false false false)) =
      some (row .unpressed 0 .running false 3 true true true) := by decide

theorem witness_DeviceStateOneWay :
    after (exec .reset (row .unpressed 0 .running false 0 false false false)) ≠ none ∧
    after (exec (.step true) (chan .unpressed 0)) ≠ none ∧
    after (exec (.step true) (row .unpressed 0 .startRunning false 0 false false false)) ≠ none := by decide

theorem witness_OnlyResetGoesBack :
    (row .unpressed 0 .running true 4294967295 true true true).fire = true ∧ small.overflow = .saturate ∧
    after (exec .tckR (row .unpressed 0 .running true 4294967295 true true true)) ≠ none := by decide

theorem witness_FailsClosed :
    after (exec (.stept true) (row .unpressed 0 .running true 2 false false false)) =
      some (row .pressPending 0 .running true 3 true true true) := by decide

/-- Each clause's premises, at a boundary of its range. -/
theorem witness_SampleRunLaws :
    small.Valid ∧ (chan .unpressed 0).btnState = .unpressed ∧
    ((chan .pressPending 2).btnState = .pressPending ∧ (chan .pressPending 2).btnConf < small.debounceThreshold) ∧
    (chan .pressPending 0).btnConf = 0 ∧ (chan .pressPending 3).btnConf = small.debounceThreshold ∧
    ((chan .releasePending 0).btnState = .releasePending ∧ (chan .releasePending 0).btnConf = 0) := by decide

/-- D36, D37: the release run of `T` samples and of `T` + 1, where the clause's two cases meet. -/
theorem test_release_run_boundary :
    debRun (List.replicate 3 false) (chan .pressPending 3) = chan .releasePending 2 ∧
    debRun (List.replicate 4 false) (chan .pressPending 3) = chan .pressed 0 := by decide

/-- D48: the shortest commit with `T` = 1. -/
theorem witness_ShortestCommit :
    tiny.Valid ∧
    (debRun [true, true, false, false] (rowOn tiny .unpressed 0 .off false 0 false false false)).btnState =
      .pressed := by decide

/-- D38 in its `T` = 1 form: a bounce, then a run of exactly `T`. -/
theorem witness_CommitNeedsBothRuns :
    tiny.Valid ∧
    (debRun [true, false, true, false, false] (rowOn tiny .unpressed 0 .off false 0 false false false)).btnState =
      .pressed := by decide

theorem witness_HeldButtonNeverArms :
    (chan .unpressed 0).cfg.Valid ∧ (chan .unpressed 0).btnState = .unpressed ∧ (chan .unpressed 0).devState = .off := by
  decide

theorem witness_EarliestRunning :
    tiny.Valid ∧
    (after (runTrace [5, 5, 4, 4, 4] (State.resetOf tiny).resetBlock)).map (·.devState) = some .running := by decide

theorem witness_CommitToRunningTakesTwoIterations :
    small.Valid ∧ (row .releasePending 2 .off true 0 false false false).devState = .off ∧
    (row .releasePending 2 .off true 0 false false false).btnState = .releasePending ∧
    small.debounceThreshold ≤ (row .releasePending 2 .off true 0 false false false).btnConf + 1 := by decide

theorem witness_LaterCommitNeverConsumed :
    small.Valid ∧ (row .pressed 0 .startRunning false 0 false false false).devState ≠ .off ∧
    (row .pressed 0 .startRunning false 0 false false false).btnState = .pressed ∧ cmdRst 0b0111 = false := by decide

/-- The shortest run that counts a tick on the smallest build; it fires. -/
theorem witness_CountedTicksDetermineOutputs :
    tiny.Valid ∧ (∀ w ∈ ([5, 5, 4, 4, 4, 2, 4] : List CmdWord), cmdRst w = false) ∧
    after (runTrace [5, 5, 4, 4, 4, 2, 4] (State.resetOf tiny).resetBlock) ≠ none ∧
    ticksCounted [5, 5, 4, 4, 4, 2, 4] (State.resetOf tiny).resetBlock = 1 := by decide

theorem witness_FireNeedsTicksRaisedInRunning :
    tiny.Valid ∧
    (after (runTrace [5, 5, 4, 4, 4, 2, 4] (State.resetOf tiny).resetBlock)).map (·.fire) = some true := by decide

theorem witness_ButtonIgnoredAfterArming :
    (row .unpressed 0 .running true 1 true true false).cfg.Valid ∧
    (row .unpressed 0 .running true 1 true true false).devState ≠ .off ∧
    row .pressed 0 .running true 1 true true false =
      { row .unpressed 0 .running true 1 true true false with btnState := .pressed, btnConf := 0 } ∧
    List.Forall₂ SameButSample [2, 4, 7] [3, 5, 6] := by decide

theorem witness_OverflowChoiceNeverSeenAtOutputs :
    let s := row .unpressed 0 .running true 4294967295 false false true
    s.cfg.Valid ∧ (s.cfg.cutdownTicks < s.elapsed.toNat → s.fire = true) := by decide

theorem witness_PortsCarryRegisters :
    (row .pressPending 3 .running true 1 true true false).Inv ∧ (State.resetOf Config.reference).Inv := by decide

end Sys2Proof.Tests
end

section
/-! The write rights of R32 and the constants of R27: what a completed instruction does, as one of the block's own
operations, then one lemma per row of the table, over all instructions but `RESET`. -/

namespace Sys2Proof.Machine

/-! ### What a completed instruction does -/

/-- The arms of `DEB` (R77). -/
def debArms : List Instr := [.debUp, .debUr, .debPp, .debPrc, .debPrb, .debRp, .debRrn, .debRrc, .debL]

/-- The arms of `TCK` (R78). -/
def tckArms : List Instr := [.tckN, .tckO, .tckS, .tckR]

/-- The arms of `FSM` (R79). -/
def fsmArms : List Instr := [.fsmOff, .fsmArm, .fsmSr, .fsmRun]

/-- The instruction is a main-loop iteration, with or without a tick after it (R170, R174). -/
abbrev Iterates (i : Instr) : Prop := ∃ b, i = .step b ∨ i = .stept b

/-- Instruction `i` takes `s` to `t` by an operation of the block: the columns of the table of R32, where an arm by
itself is its whole micro-operation. -/
inductive Runs (s : State) : Instr → State → Prop
  | reset : Runs s .reset s.resetBlock
  | nop : Runs s .nop s
  | tick : Runs s .tick s.raiseTick
  | step (b : Bool) : Runs s (.step b) (iteration b s)
  | stept (b : Bool) : Runs s (.stept b) (iteration b s).raiseTick
  | debArm {i : Instr} (hi : i ∈ debArms) (b : Bool) : Runs s i (deb b s)
  | tckArm {i : Instr} (hi : i ∈ tckArms) : Runs s i (tck s)
  | fsmArm {i : Instr} (hi : i ∈ fsmArms) : Runs s i (fsm s)

theorem Runs.of_complete {i : Instr} {s t m : State} (hm : Runs s i m) (h : s.complete m = .next t) : Runs s i t := by
  obtain ⟨-, rfl⟩ := (State.complete_eq_next ..).1 h
  exact hm

/-- An arm that completes with effect `u` runs `m`, if its selection makes `u` the effect of `m`. -/
theorem Runs.of_completeArm {i : Instr} {s t m u : State} {arm : String} {sel : Bool} (hm : Runs s i m)
    (h : s.completeArm arm sel u = .next t) (hu : sel = true → m = u) : Runs s i t := by
  obtain ⟨hsel, -, rfl⟩ := (State.completeArm_eq_next ..).1 h
  exact hu hsel ▸ hm

/-- With no tick pending `TCK` changes nothing: the flag it clears is clear (R133). -/
theorem tck_of_not_pending {s : State} (hflag : s.tickFlag = false) : tck s = s :=
  calc tck s = s.setTickFlag false := ((tck_cases s).resolve_left (by simp [hflag])).2
    _ = s.setTickFlag s.tickFlag := by rw [hflag]
    _ = s := rfl

/-- Every instruction that has a next state reaches it by an operation of the block; an arm runs only where it is
selected, so its effect there is that of its micro-operation (R77 to R79). -/
theorem runs_of_exec {i : Instr} {s t : State} (h : exec i s = .next t) : Runs s i t := by
  cases i with
  | reset => exact Runs.reset.of_complete h
  | nop => exact Runs.nop.of_complete h
  | tick => exact Runs.tick.of_complete h
  | step b => exact (Runs.step b).of_complete h
  | stept b => exact (Runs.stept b).of_complete h
  | debUp => exact (Runs.debArm (by decide) true).of_completeArm h (by simp +contextual [deb])
  | debUr => exact (Runs.debArm (by decide) false).of_completeArm h (by simp +contextual [deb])
  | debPp => exact (Runs.debArm (by decide) true).of_completeArm h (by simp +contextual [deb])
  | debPrc => exact (Runs.debArm (by decide) false).of_completeArm h (by simp +contextual [deb])
  | debPrb => exact (Runs.debArm (by decide) false).of_completeArm h (by simp +contextual [deb])
  | debRp => exact (Runs.debArm (by decide) true).of_completeArm h (by simp +contextual [deb])
  | debRrn => exact (Runs.debArm (by decide) false).of_completeArm h (by simp +contextual [deb])
  | debRrc => exact (Runs.debArm (by decide) false).of_completeArm h (by simp +contextual [deb])
  | debL => exact (Runs.debArm (by decide) false).of_completeArm h (by simp +contextual [deb])
  | tckN => exact (Runs.tckArm (by decide)).of_completeArm h fun hsel => tck_of_not_pending (by simpa using hsel)
  | tckO => exact (Runs.tckArm (by decide)).of_completeArm h (by simp +contextual [tck, readAndClearTick, tckO])
  | tckS => exact (Runs.tckArm (by decide)).of_completeArm h (by simp +contextual [tck, readAndClearTick, tckS])
  | tckR => exact (Runs.tckArm (by decide)).of_completeArm h (by simp +contextual [tck, readAndClearTick, tckR])
  | fsmOff => exact (Runs.fsmArm (by decide)).of_completeArm h (by simp +contextual [fsm])
  | fsmArm => exact (Runs.fsmArm (by decide)).of_completeArm h (by simp +contextual [fsm])
  | fsmSr => exact (Runs.fsmArm (by decide)).of_completeArm h (by simp +contextual [fsm])
  | fsmRun => exact (Runs.fsmArm (by decide)).of_completeArm h (by simp +contextual [fsm])

/-! ### What each micro-operation may write -/

/-- `FSM` writes `btn_state` only to consume a committed press (R151). -/
theorem fsm_btnState_cases (s : State) :
    (fsm s).btnState = s.btnState ∨ (s.btnState = .pressed ∧ (fsm s).btnState = .unpressed) := by
  rcases fsm_cases s with ⟨-, hq, h⟩ | ⟨-, -, h⟩ | ⟨-, h⟩ | ⟨-, h⟩ <;> rw [h]
  · exact .inr ⟨hq, rfl⟩
  all_goals exact .inl rfl

/-- `FSM` moves `dev_state` one state forward or not at all (R155). -/
theorem fsm_devState_cases (s : State) :
    (fsm s).devState = s.devState ∨ (s.devState = .off ∧ (fsm s).devState = .startRunning) ∨
      (s.devState = .startRunning ∧ (fsm s).devState = .running) := by
  rcases fsm_cases s with ⟨hd, -, h⟩ | ⟨-, -, h⟩ | ⟨hd, h⟩ | ⟨-, h⟩ <;> rw [h]
  · exact .inr (.inl ⟨hd, rfl⟩)
  · exact .inl rfl
  · exact .inr (.inr ⟨hd, rfl⟩)
  · exact .inl rfl

/-- `TCK` leaves the count and the outputs, or counts once, toggles both blinkers and at most raises `fire`
(R137 to R139). -/
theorem tck_outputs_cases (s : State) :
    ((tck s).elapsed = s.elapsed ∧ (tck s).buzzer = s.buzzer ∧ (tck s).led = s.led ∧ (tck s).fire = s.fire) ∨
    ((tck s).elapsed = incTicks s.cfg.overflow s.elapsed ∧ (tck s).buzzer = !s.buzzer ∧ (tck s).led = !s.led ∧
      ((tck s).fire = s.fire ∨ (tck s).fire = true)) := by
  rcases tck_cases s with ⟨-, -, h⟩ | ⟨-, h⟩ <;> rw [h]
  · rw [tickWork_eq]
    exact .inr ⟨rfl, rfl, rfl, (ite_eq_or_eq _ _ _).symm⟩
  · exact .inl ⟨rfl, rfl, rfl, rfl⟩

/-! ### The iteration, element by element -/

section
variable (b : Bool) (s : State)

@[simp] theorem iteration_cfg : (iteration b s).cfg = s.cfg := by simp [iteration]
@[simp] theorem iteration_tickFlag : (iteration b s).tickFlag = false := by simp [iteration]
@[simp] theorem iteration_elapsed : (iteration b s).elapsed = (tck (deb b s)).elapsed := by simp [iteration]
@[simp] theorem iteration_buzzer : (iteration b s).buzzer = (tck (deb b s)).buzzer := by simp [iteration]
@[simp] theorem iteration_led : (iteration b s).led = (tck (deb b s)).led := by simp [iteration]
@[simp] theorem iteration_fire : (iteration b s).fire = (tck (deb b s)).fire := by simp [iteration]

/-- The channel after an iteration is `DEB`'s, unless `FSM` consumes the press it finds (R171). -/
theorem iteration_btnState_cases :
    (iteration b s).btnState = (deb b s).btnState ∨
      ((deb b s).btnState = .pressed ∧ (iteration b s).btnState = .unpressed) := by
  simpa [iteration] using fsm_btnState_cases (tck (deb b s))

/-- An iteration moves `dev_state` as its `FSM` does (R155). -/
theorem iteration_devState_cases :
    (iteration b s).devState = s.devState ∨ (s.devState = .off ∧ (iteration b s).devState = .startRunning) ∨
      (s.devState = .startRunning ∧ (iteration b s).devState = .running) := by
  simpa [iteration] using fsm_devState_cases (tck (deb b s))

end

/-! ### The rows of the table of R32 -/

section
variable {i : Instr} {s t : State}

theorem Runs.cfg_eq (h : Runs s i t) : t.cfg = s.cfg := by
  cases h with
  | reset | nop | tick => rfl
  | step b | stept b => simp
  | debArm hi b => exact deb_cfg b s
  | tckArm hi => exact tck_cfg s
  | fsmArm hi => exact fsm_cfg s

theorem Runs.btnState_cases (h : Runs s i t) (hr : i ≠ .reset) :
    t.btnState = s.btnState ∨
    (∃ b, (i ∈ debArms ∨ i = .step b ∨ i = .stept b) ∧ t.btnState = (deb b s).btnState) ∨
    (t.btnState = .unpressed ∧
      ((i ∈ fsmArms ∧ s.btnState = .pressed) ∨
        ∃ b, (i = .step b ∨ i = .stept b) ∧ (deb b s).btnState = .pressed)) := by
  cases h with
  | reset => exact absurd rfl hr
  | nop | tick => exact .inl rfl
  | step b | stept b =>
    rcases iteration_btnState_cases b s with he | ⟨hp, hu⟩
    · exact .inr (.inl ⟨b, by simp, he⟩)
    · exact .inr (.inr ⟨hu, .inr ⟨b, by simp, hp⟩⟩)
  | debArm hi b => exact .inr (.inl ⟨b, .inl hi, rfl⟩)
  | tckArm hi => exact .inl (tck_btnState s)
  | fsmArm hi =>
    rcases fsm_btnState_cases s with he | ⟨hp, hu⟩
    · exact .inl he
    · exact .inr (.inr ⟨hu, .inl ⟨hi, hp⟩⟩)

theorem Runs.btnConf_cases (h : Runs s i t) (hr : i ≠ .reset) :
    t.btnConf = s.btnConf ∨ i ∈ debArms ∨ Iterates i := by
  cases h with
  | reset => exact absurd rfl hr
  | nop | tick => exact .inl rfl
  | step b | stept b => exact .inr (.inr ⟨b, by simp⟩)
  | debArm hi b => exact .inr (.inl hi)
  | tckArm hi => exact .inl (tck_btnConf s)
  | fsmArm hi => exact .inl (fsm_btnConf s)

theorem Runs.devState_cases (h : Runs s i t) (hr : i ≠ .reset) :
    t.devState = s.devState ∨
    ((i ∈ fsmArms ∨ Iterates i) ∧
      ((s.devState = .off ∧ t.devState = .startRunning) ∨
        (s.devState = .startRunning ∧ t.devState = .running))) := by
  cases h with
  | reset => exact absurd rfl hr
  | nop | tick => exact .inl rfl
  | step b | stept b => exact (iteration_devState_cases b s).imp_right (⟨.inr ⟨b, by simp⟩, ·⟩)
  | debArm hi b => exact .inl (deb_devState b s)
  | tckArm hi => exact .inl (tck_devState s)
  | fsmArm hi => exact (fsm_devState_cases s).imp_right (⟨.inl hi, ·⟩)

/-- The core only clears the flag, the tick source only sets it (R28, R198). -/
theorem Runs.tickFlag_cases (h : Runs s i t) (hr : i ≠ .reset) :
    t.tickFlag = s.tickFlag ∨ (t.tickFlag = false ∧ (i ∈ tckArms ∨ ∃ b, i = .step b)) ∨
      (t.tickFlag = true ∧ (i = .tick ∨ ∃ b, i = .stept b)) := by
  cases h with
  | reset => exact absurd rfl hr
  | nop => exact .inl rfl
  | tick => exact .inr (.inr ⟨rfl, .inl rfl⟩)
  | step b => exact .inr (.inl ⟨iteration_tickFlag b s, .inr ⟨b, rfl⟩⟩)
  | stept b => exact .inr (.inr ⟨rfl, .inr ⟨b, rfl⟩⟩)
  | debArm hi b => exact .inl (deb_tickFlag b s)
  | tckArm hi => exact .inr (.inl ⟨tck_tickFlag s, .inl hi⟩)
  | fsmArm hi => exact .inl (fsm_tickFlag s)

/-- The rows of `elapsed`, of the blinkers and of `fire` are one: `TCK` writes them together (R136). -/
theorem Runs.outputs_cases (h : Runs s i t) (hr : i ≠ .reset) :
    (t.elapsed = s.elapsed ∧ t.buzzer = s.buzzer ∧ t.led = s.led ∧ t.fire = s.fire) ∨
    ((i ∈ tckArms ∨ Iterates i) ∧ t.elapsed = incTicks s.cfg.overflow s.elapsed ∧ t.buzzer = (!s.buzzer) ∧
      t.led = (!s.led) ∧ (t.fire = s.fire ∨ t.fire = true)) := by
  cases h with
  | reset => exact absurd rfl hr
  | nop | tick => exact .inl ⟨rfl, rfl, rfl, rfl⟩
  | step b | stept b => simpa [Iterates] using tck_outputs_cases (deb b s)
  | debArm hi b => simp
  | tckArm hi => exact (tck_outputs_cases s).imp_right (⟨.inl hi, ·⟩)
  | fsmArm hi => simp

end

/-! ### The obligations -/

/-- Settles O33: every operation that an instruction can run keeps `cfg`. -/
theorem buildNeverWritten : Obligations.BuildNeverWritten := fun _ _ _ h => (runs_of_exec h).cfg_eq

/-- Settles O34: the column of `RESET` from its exact effect, the other columns row by row. -/
theorem writeRights : Obligations.WriteRights := by
  intro i s t h
  have hrun : Runs s i t := runs_of_exec h
  constructor
  · rintro rfl
    obtain ⟨-, rfl⟩ := (State.complete_eq_next ..).1 h
    exact ⟨rfl, rfl, rfl, rfl, rfl, rfl, rfl, rfl⟩
  · intro hr
    have hout := hrun.outputs_cases hr
    refine ⟨(hrun.btnState_cases hr).resolve_left, (hrun.btnConf_cases hr).resolve_left,
      (hrun.devState_cases hr).resolve_left, ?_, ?_, ?_, ?_, ?_⟩
    · intro hs ht
      rcases hrun.tickFlag_cases hr with he | ⟨-, hw⟩ | ⟨ht', -⟩
      · simp [hs, ht] at he
      · exact hw
      · simp [ht] at ht'
    · intro hs ht
      rcases hrun.tickFlag_cases hr with he | ⟨ht', -⟩ | ⟨-, hw⟩
      · simp [hs, ht] at he
      · simp [ht] at ht'
      · exact hw
    · intro hne
      rcases hout with ⟨he, -⟩ | ⟨hw, he, -⟩
      · exact absurd he hne
      · exact ⟨hw, he⟩
    · intro hne
      rcases hout with ⟨-, hb, hl, -⟩ | ⟨hw, -, hb, hl, -⟩
      · exact absurd hne (by simp [hb, hl])
      · exact ⟨hw, hb, hl⟩
    · intro hne
      rcases hout with ⟨-, -, -, hf⟩ | ⟨hw, -, -, -, hf⟩
      · exact absurd hf hne
      · exact ⟨hw, hf.resolve_left hne⟩

/-- The reset state of a legal build meets the invariants, each by the reset values it speaks of (R35). -/
theorem inv_resetOf {c : Config} (hc : c.Valid) : (State.resetOf c).Inv := by
  have hcount : ¬ c.cutdownTicks < (State.resetOf c).elapsed.toNat := Nat.not_lt_zero _
  have hfire : (State.resetOf c).fire ≠ true := Bool.false_ne_true
  exact ⟨hc, Nat.zero_le _, fun _ => rfl, nofun, fun _ => ⟨rfl, rfl, rfl, rfl⟩, rfl,
    fun h => absurd h hcount, fun _ h => absurd h hfire⟩

/-- Settles O30: the invariants by `inv_resetOf`, `Settled` because the channel starts `Unpressed`. -/
theorem resetStateMeetsInvariants : Obligations.ResetStateMeetsInvariants :=
  fun _ hc => ⟨inv_resetOf hc, nofun, rfl⟩

end Sys2Proof.Machine
end

section
/-! The encoding (R74, R75, R84): what `decode` answers on a word that fits its format, and how the rows of the opcode
table divide the words among themselves. -/

namespace Sys2Proof

/-! ### The decoder, format by format -/

theorem decode_cmd (w : CmdWord) : decode ⟨.cmd, w.toNat⟩ = .ok (decodeCmd w) := by
  simp [decode, Format.width, w.isLt]

theorem decode_debArm (w : DebWord) : decode ⟨.debArm, w.toNat⟩ = .ok (decodeDebArm w) := by
  simp [decode, Format.width, w.isLt]

theorem decode_tckArm (w : ArmWord) :
    decode ⟨.tckArm, w.toNat⟩ = (decodeTckArm w).elim (.error .reservedDevState) .ok := by
  cases h : decodeTckArm w <;> simp [decode, Format.width, w.isLt, h]

theorem decode_fsmArm (w : ArmWord) :
    decode ⟨.fsmArm, w.toNat⟩ = (decodeFsmArm w).elim (.error .reservedDevState) .ok := by
  cases h : decodeFsmArm w <;> simp [decode, Format.width, w.isLt, h]

/-! ### Each decoder against the rows of its format -/

theorem decodeCmd_rowMatches (w : CmdWord) : rowMatches (opcodeRow (decodeCmd w)) ⟨.cmd, w.toNat⟩ = true := by
  revert w; decide

theorem decodeDebArm_rowMatches (w : DebWord) :
    rowMatches (opcodeRow (decodeDebArm w)) ⟨.debArm, w.toNat⟩ = true := by
  revert w; decide

theorem decodeTckArm_rowMatches (w : ArmWord) :
    ∀ i ∈ decodeTckArm w, rowMatches (opcodeRow i) ⟨.tckArm, w.toNat⟩ = true := by
  revert w; decide

theorem decodeFsmArm_rowMatches (w : ArmWord) :
    ∀ i ∈ decodeFsmArm w, rowMatches (opcodeRow i) ⟨.fsmArm, w.toNat⟩ = true := by
  revert w; decide

/-- `TCK`'s decoder refuses exactly the reserved selector (R84). -/
theorem decodeTckArm_eq_none_iff (w : ArmWord) :
    decodeTckArm w = none ↔ TableWord.reserved ⟨.tckArm, w.toNat⟩ = true := by
  revert w; decide

/-- `FSM`'s decoder refuses exactly the reserved selectors (R84). -/
theorem decodeFsmArm_eq_none_iff (w : ArmWord) :
    decodeFsmArm w = none ↔ TableWord.reserved ⟨.fsmArm, w.toNat⟩ = true := by
  revert w; decide

/-- The two answers `decode` has for a word that fits: a reserved word is refused, any other decodes to an instruction
in whose row it lies. -/
def DecodesOrReserved (t : TableWord) : Prop :=
  (t.reserved = true ∧ decode t = .error .reservedDevState) ∨
    (t.reserved = false ∧ ∃ i, decode t = .ok i ∧ rowMatches (opcodeRow i) t = true)

/-- A decoder that refuses exactly the reserved words, and else answers with the word's row, gives one of the two. -/
theorem decodesOrReserved_of_option {t : TableWord} {o : Option Instr}
    (hdec : decode t = o.elim (.error .reservedDevState) .ok) (hnone : o = none ↔ t.reserved = true)
    (hrow : ∀ i ∈ o, rowMatches (opcodeRow i) t = true) : DecodesOrReserved t := by
  cases o with
  | none => exact .inl ⟨hnone.1 rfl, hdec⟩
  | some i =>
    have hres : ¬ t.reserved = true := fun h => nomatch hnone.2 h
    exact .inr ⟨eq_false_of_ne_true hres, i, hdec, hrow i rfl⟩

theorem decodesOrReserved_of_bitVec (f : Format) (w : BitVec f.width) : DecodesOrReserved ⟨f, w.toNat⟩ := by
  cases f with
  | cmd => exact .inr ⟨rfl, decodeCmd w, decode_cmd w, decodeCmd_rowMatches w⟩
  | debArm => exact .inr ⟨rfl, decodeDebArm w, decode_debArm w, decodeDebArm_rowMatches w⟩
  | tckArm =>
    exact decodesOrReserved_of_option (decode_tckArm w) (decodeTckArm_eq_none_iff w) (decodeTckArm_rowMatches w)
  | fsmArm =>
    exact decodesOrReserved_of_option (decode_fsmArm w) (decodeFsmArm_eq_none_iff w) (decodeFsmArm_rowMatches w)

theorem decode_cases {t : TableWord} (hfits : t.bits < 2 ^ t.format.width) : DecodesOrReserved t :=
  decodesOrReserved_of_bitVec t.format (BitVec.ofNatLT t.bits hfits)

/-! ### The rows are disjoint -/

/-- The rows of spec/opcode_table.json (R75, R84). -/
def opcodeRows : List OpcodeRow :=
  [.reset, .nop, .tick, .step false, .stept false, .debUp, .debUr, .debPp, .debPrc, .debPrb, .debRp, .debRrn, .debRrc,
    .debL, .tckN, .tckO, .tckS, .tckR, .fsmOff, .fsmArm, .fsmSr, .fsmRun].map opcodeRow

theorem opcodeRow_mem_opcodeRows (i : Instr) : opcodeRow i ∈ opcodeRows := by
  cases i <;> simp [opcodeRows, opcodeRow]

/-- Two rows of one format whose fixed bits agree wherever both fix one are the same row. -/
theorem opcodeRows_eq_of_patterns_agree :
    ∀ r ∈ opcodeRows, ∀ r' ∈ opcodeRows, r.format = r'.format →
      r.pattern &&& r'.mask = r'.pattern &&& r.mask → r = r' := by
  decide

/-- A word lies in at most one row: it carries the fixed bits of every row it lies in, so these agree. -/
theorem opcodeRow_eq_of_rowMatches {i j : Instr} {t : TableWord} (hi : rowMatches (opcodeRow i) t = true)
    (hj : rowMatches (opcodeRow j) t = true) : opcodeRow i = opcodeRow j := by
  simp only [rowMatches, Bool.and_eq_true, beq_iff_eq] at hi hj
  obtain ⟨hfi, hbi⟩ := hi
  obtain ⟨hfj, hbj⟩ := hj
  have hagree : (opcodeRow i).pattern &&& (opcodeRow j).mask = (opcodeRow j).pattern &&& (opcodeRow i).mask := by
    rw [← hbi, ← hbj, Nat.and_right_comm]
  exact opcodeRows_eq_of_patterns_agree _ (opcodeRow_mem_opcodeRows i) _ (opcodeRow_mem_opcodeRows j)
    (hfi.trans hfj.symm) hagree

/-! ### The encoder -/

/-- The lemmas of `Laws.CanonicalWord` over all instructions. -/
theorem encode_canonical : ∀ i : Instr, Laws.CanonicalWord.Statement i
  | .reset => Laws.CanonicalWord.reset
  | .nop => Laws.CanonicalWord.nop
  | .tick => Laws.CanonicalWord.tick
  | .step b => Laws.CanonicalWord.step b
  | .stept b => Laws.CanonicalWord.stept b
  | .debUp => Laws.CanonicalWord.debUp
  | .debUr => Laws.CanonicalWord.debUr
  | .debPp => Laws.CanonicalWord.debPp
  | .debPrc => Laws.CanonicalWord.debPrc
  | .debPrb => Laws.CanonicalWord.debPrb
  | .debRp => Laws.CanonicalWord.debRp
  | .debRrn => Laws.CanonicalWord.debRrn
  | .debRrc => Laws.CanonicalWord.debRrc
  | .debL => Laws.CanonicalWord.debL
  | .tckN => Laws.CanonicalWord.tckN
  | .tckO => Laws.CanonicalWord.tckO
  | .tckS => Laws.CanonicalWord.tckS
  | .tckR => Laws.CanonicalWord.tckR
  | .fsmOff => Laws.CanonicalWord.fsmOff
  | .fsmArm => Laws.CanonicalWord.fsmArm
  | .fsmSr => Laws.CanonicalWord.fsmSr
  | .fsmRun => Laws.CanonicalWord.fsmRun

/-- The decoder undoes the encoder: the canonical word is a literal, for the two commands with a sample one
literal for each sample. -/
theorem decode_encode (i : Instr) : decode (encode i) = .ok i := by
  cases i with
  | step b | stept b => cases b <;> rfl
  | _ => rfl

/-! ### The obligations -/

/-- Settles O22: the canonical words are well formed row by row, and the decoder undoes the encoder. -/
theorem decodeEncodeRoundTrip : Obligations.DecodeEncodeRoundTrip :=
  fun i => ⟨(encode_canonical i).1, decode_encode i⟩

/-- Settles O23: `decode_cases` gives the instruction and its row, the disjointness of the rows that there is no
other. -/
theorem everyWordLiesInOneRow : Obligations.EveryWordLiesInOneRow := by
  rintro t ⟨hfits, hres⟩
  rcases decode_cases hfits with ⟨hres', -⟩ | ⟨-, i, hdec, hrow⟩
  · simp [hres] at hres'
  · exact ⟨i, hdec, hrow, fun j hj => opcodeRow_eq_of_rowMatches hj hrow⟩

/-- Settles O21: the table, word by word. -/
theorem commandWordTable : Obligations.CommandWordTable := by
  unfold Obligations.CommandWordTable
  decide

/-- Settles O24: the words that fit by `decode_cases`, the three device states by their codes. -/
theorem reservedDeviceCodeRefused : Obligations.ReservedDeviceCodeRefused := by
  refine ⟨rfl, fun t hfits => ?_, fun d => ?_⟩
  · rcases decode_cases hfits with ⟨hres, hdec⟩ | ⟨hres, i, hdec, -⟩ <;> simp [hres, hdec]
  · cases d <;> exact ⟨by decide, rfl⟩

/-- Settles O25: each word decodes by computation. -/
theorem sampleWordsDecode : Obligations.SampleWordsDecode := ⟨rfl, rfl, rfl, rfl, rfl, rfl, rfl⟩

end Sys2Proof
end

section
/-! The pseudo-command `ARM` (R83): runs of samples through the filter (R111), the iterations that are `DEB` alone, and
the trace from reset to `Running`. -/

namespace Sys2Proof.Machine

/-! ### Runs of samples -/

@[simp] theorem debRun_append (as bs : List Bool) (s : State) : debRun (as ++ bs) s = debRun bs (debRun as s) := by
  induction as generalizing s with
  | nil => rfl
  | cons a as ih => exact ih (deb a s)

/-- `Pressed` is latched (R109). -/
theorem deb_of_pressed {s : State} (hq : s.btnState = .pressed) (b : Bool) : deb b s = s := by
  simp [deb, hq, debL]

theorem debRun_of_pressed {s : State} (hq : s.btnState = .pressed) (bs : List Bool) : debRun bs s = s := by
  induction bs with
  | nil => rfl
  | cons b bs ih => rw [debRun, deb_of_pressed hq, ih]

/-- Pressed samples in `PressPending` count up to `T` (R103). -/
theorem debRun_replicate_true_of_pressPending (n : Nat) {s : State} (hq : s.btnState = .pressPending)
    (hc : s.btnConf ≤ s.cfg.debounceThreshold) :
    debRun (List.replicate n true) s = s.setBtnConf (min (s.btnConf + n) s.cfg.debounceThreshold) := by
  induction n generalizing s with
  | zero => simp [debRun, hc, State.setBtnConf]
  | succ n ih =>
    have hstep : deb true s = s.setBtnConf (nextConf s) := by simp [deb, hq, debPp]
    have hmin : min (nextConf s + n) s.cfg.debounceThreshold = min (s.btnConf + (n + 1)) s.cfg.debounceThreshold := by
      unfold nextConf; omega
    calc debRun (List.replicate (n + 1) true) s
        = debRun (List.replicate n true) (s.setBtnConf (nextConf s)) := by rw [List.replicate_succ, debRun, hstep]
      _ = s.setBtnConf (min (nextConf s + n) s.cfg.debounceThreshold) :=
          ih (s := s.setBtnConf _) hq (Nat.min_le_right _ _)
      _ = s.setBtnConf (min (s.btnConf + (n + 1)) s.cfg.debounceThreshold) := by rw [hmin]

/-- Released samples in `ReleasePending` count while the count stays below `T` (R107). -/
theorem debRun_replicate_false_of_releasePending (n : Nat) {s : State} (hq : s.btnState = .releasePending)
    (hc : s.btnConf + n < s.cfg.debounceThreshold) :
    debRun (List.replicate n false) s = s.setBtnConf (s.btnConf + n) := by
  induction n generalizing s with
  | zero => rfl
  | succ n ih =>
    have hopen : ¬ s.cfg.debounceThreshold ≤ s.btnConf + 1 := by omega
    have hstep : deb false s = s.setBtnConf (s.btnConf + 1) := by simp [deb, hq, confFills, nextConf, hopen, debRrn]
    have hsum : s.btnConf + 1 + n = s.btnConf + (n + 1) := by omega
    calc debRun (List.replicate (n + 1) false) s
        = debRun (List.replicate n false) (s.setBtnConf (s.btnConf + 1)) := by
          rw [List.replicate_succ, debRun, hstep]
      _ = s.setBtnConf (s.btnConf + 1 + n) := ih (s := s.setBtnConf _) hq (hsum.trans_lt hc)
      _ = s.setBtnConf (s.btnConf + (n + 1)) := by rw [hsum]

/-- `T + 1` pressed samples fill the count of an idle channel: the first one is not counted (R101, R103). -/
theorem debRun_press_of_unpressed {s : State} (hq : s.btnState = .unpressed) :
    debRun (List.replicate (s.cfg.debounceThreshold + 1) true) s =
      (s.setBtnState .pressPending).setBtnConf s.cfg.debounceThreshold := by
  have hup : deb true s = debUp s := by simp [deb, hq]
  rw [List.replicate_succ, debRun, hup, debRun_replicate_true_of_pressPending _ rfl (Nat.zero_le _)]
  simp [debUp, State.setBtnState, State.setBtnConf]

/-- `T` released samples take a channel with a full count one sample short of the commit: the first one is not
counted (R104, R107). -/
theorem debRun_release_of_confFull {s : State} (hT : 1 ≤ s.cfg.debounceThreshold) (hq : s.btnState = .pressPending)
    (hfull : confFull s = true) :
    debRun (List.replicate s.cfg.debounceThreshold false) s =
      (s.setBtnState .releasePending).setBtnConf (s.cfg.debounceThreshold - 1) := by
  obtain ⟨k, hk⟩ := Nat.exists_eq_add_of_le' hT
  have hprc : deb false s = debPrc s := by simp [deb, hq, hfull]
  rw [hk, List.replicate_succ, debRun, hprc, debRun_replicate_false_of_releasePending k rfl (by simp [debPrc, hk])]
  simp [debPrc, State.setBtnState, State.setBtnConf]

/-! ### Traces of iterations -/

/-- The command word of `STEP b` (R75). -/
def stepWord (b : Bool) : CmdWord := cmdWord false true false b

@[simp] theorem decodeCmd_stepWord (b : Bool) : decodeCmd (stepWord b) = .step b := by cases b <;> rfl

@[simp] theorem commandWord_step (b : Bool) : commandWord (.step b) = some (stepWord b) := by cases b <;> rfl

theorem exec_step_of_valid {s : State} (hv : s.cfg.Valid) (b : Bool) : exec (.step b) s = .next (iteration b s) :=
  State.complete_of_valid hv _

/-- A completed first command hands its next state to the rest of the trace. -/
theorem runTrace_cons_of_exec {w : CmdWord} {ws : List CmdWord} {s t : State} (h : exec (decodeCmd w) s = .next t) :
    runTrace (w :: ws) s = runTrace ws t := by
  rw [runTrace, h]

theorem runTrace_stepWord_cons {s : State} (hv : s.cfg.Valid) (b : Bool) (ws : List CmdWord) :
    runTrace (stepWord b :: ws) s = runTrace ws (iteration b s) :=
  runTrace_cons_of_exec (by rw [decodeCmd_stepWord, exec_step_of_valid hv])

theorem runTrace_append_of_next {ws ws' : List CmdWord} {s t : State} (h : runTrace ws s = .next t) :
    runTrace (ws ++ ws') s = runTrace ws' t := by
  induction ws generalizing s with
  | nil => cases h; rfl
  | cons w ws ih =>
    cases hw : exec (decodeCmd w) s with
    | next u =>
      rw [runTrace_cons_of_exec hw] at h
      rw [List.cons_append, runTrace_cons_of_exec hw, ih h]
    | fault r => simp [runTrace, hw] at h
    | refused r => simp [runTrace, hw] at h

/-- In `Off`, with no tick pending, an iteration that does not commit is `DEB` alone (R133, R152). -/
theorem iteration_eq_deb {s : State} {b : Bool} (hflag : s.tickFlag = false) (hoff : s.devState = .off)
    (hq : (deb b s).btnState ≠ .pressed) : iteration b s = deb b s := by
  simp [iteration, tck_of_not_pending, fsm, fsmOff, hflag, hoff, hq]

/-- So in `Off` a trace of iterations that ends without a commit is the run of its samples through the filter: a
commit on the way would stay. -/
theorem runTrace_stepWords {bs : List Bool} {s : State} (hv : s.cfg.Valid) (hflag : s.tickFlag = false)
    (hoff : s.devState = .off) (hq : (debRun bs s).btnState ≠ .pressed) :
    runTrace (bs.map stepWord) s = .next (debRun bs s) := by
  induction bs generalizing s with
  | nil => rfl
  | cons b bs ih =>
    have hb : (deb b s).btnState ≠ .pressed := fun hp => hq (by rw [debRun, debRun_of_pressed hp, hp])
    rw [List.map_cons, runTrace_stepWord_cons hv, iteration_eq_deb hflag hoff hb]
    exact ih (by simpa using hv) (by simpa using hflag) (by simpa using hoff) hq

/-! ### ARM -/

@[simp] theorem repeatCmds_singleton (n : Nat) (i : Instr) : repeatCmds n [i] = List.replicate n i := by
  induction n with
  | zero => rfl
  | succ n ih => rw [repeatCmds, ih]; rfl

/-- The samples of `ARM` up to the last but two: the press, and the release one sample short of its commit (R83). -/
def armPending (T : Nat) : List Bool := List.replicate (T + 1) true ++ List.replicate T false

/-- The trace of `ARM`: the last two samples, released ones, commit and reach `Running`. -/
theorem assemble_arm (T : Nat) :
    assemble T [.arm] = (armPending T).map stepWord ++ [stepWord false, stepWord false] := by
  simp [assemble, expandPseudo, armPending, List.replicate_add T 2]

theorem debRun_armPending {s : State} (hT : 1 ≤ s.cfg.debounceThreshold) (hq : s.btnState = .unpressed) :
    debRun (armPending s.cfg.debounceThreshold) s =
      (s.setBtnState .releasePending).setBtnConf (s.cfg.debounceThreshold - 1) := by
  rw [armPending, debRun_append, debRun_press_of_unpressed hq]
  exact debRun_release_of_confFull (s := (s.setBtnState .pressPending).setBtnConf s.cfg.debounceThreshold) hT rfl
    (by simp [confFull])

/-- The released sample that completes the run commits, and in `Off` the same iteration consumes the press (R108,
R151, R171). -/
theorem iteration_commit {s : State} (hflag : s.tickFlag = false) (hoff : s.devState = .off)
    (hq : s.btnState = .releasePending) (hc : s.cfg.debounceThreshold ≤ s.btnConf + 1) :
    iteration false s = fsmArm (debRrc s) := by
  have hdeb : deb false s = debRrc s := by simp [deb, hq, confFills, nextConf, hc]
  rw [iteration, hdeb, tck_of_not_pending (s := debRrc s) hflag]
  simp [fsm, debRrc, hoff]

/-- The iteration after it goes on to `Running` (R153). -/
theorem iteration_startRunning {s : State} (hflag : s.tickFlag = false) (hstart : s.devState = .startRunning)
    (hq : s.btnState = .unpressed) : iteration false s = fsmSr s := by
  have hdeb : deb false s = s := by simp [deb, hq, debUr]
  rw [iteration, hdeb, tck_of_not_pending hflag]
  simp [fsm, hstart]

/-- From an idle device `ARM` ends in `Running`, with the channel idle again and nothing else moved (R83). -/
theorem runTrace_arm {s : State} (hv : s.cfg.Valid) (hflag : s.tickFlag = false) (hoff : s.devState = .off)
    (hq : s.btnState = .unpressed) :
    runTrace (assemble s.cfg.debounceThreshold [.arm]) s =
      .next ((s.setBtnConf 0).setDevState .running) := by
  set T := s.cfg.debounceThreshold
  set c := (s.setBtnState .releasePending).setBtnConf (T - 1)
  have hrun : debRun (armPending T) s = c := debRun_armPending hv.1 hq
  have hpending : runTrace ((armPending T).map stepWord) s = .next c :=
    hrun ▸ runTrace_stepWords hv hflag hoff (hrun ▸ nofun)
  have hcommit : iteration false c = fsmArm (debRrc c) :=
    iteration_commit hflag hoff rfl (Nat.sub_add_cancel hv.1).ge
  have hrunning : iteration false (fsmArm (debRrc c)) = fsmSr (fsmArm (debRrc c)) :=
    iteration_startRunning hflag rfl rfl
  calc runTrace (assemble T [.arm]) s
      = runTrace [stepWord false, stepWord false] c := by rw [assemble_arm, runTrace_append_of_next hpending]
    _ = runTrace [stepWord false] (fsmArm (debRrc c)) := by rw [runTrace_stepWord_cons (s := c) hv, hcommit]
    _ = runTrace [] (fsmSr (fsmArm (debRrc c))) := by
        rw [runTrace_stepWord_cons (s := fsmArm (debRrc c)) hv, hrunning]
    _ = .next (((s.setBtnState .unpressed).setBtnConf 0).setDevState .running) := rfl
    _ = .next ((s.setBtnConf 0).setDevState .running) := by rw [← hq]; rfl

/-- Settles O44: the trace by its two parts and two words, the run from the idle device that `RESET` leaves. -/
theorem armTraceReachesRunning : Obligations.ArmTraceReachesRunning := by
  intro s hv
  constructor
  · simp [assemble_arm, armPending]
    omega
  · exact runTrace_arm (s := s.resetBlock) hv rfl rfl rfl

end Sys2Proof.Machine
end

section
/-! The invariants of 10_state.md (R30, R36 to R38, R41, R43): each operation of the block keeps them, `DEB` the three
about the channel, `TCK` and `FSM` those about the device and its outputs. -/

namespace Sys2Proof.Machine

/-! ### The channel -/

/-- What the invariants say of the channel alone (R36 to R38). -/
abbrev ChannelInv (s : State) : Prop := ConfBounded s ∧ ConfIdle s ∧ ReleaseOpen s

/-- What they say of the device and its outputs (R30, R41, R43). -/
abbrev OutputsInv (s : State) : Prop := QuietBeforeRunning s ∧ BlinkersInPhase s ∧ FireMatchesCount s

theorem inv_iff (s : State) : s.Inv ↔ s.cfg.Valid ∧ ChannelInv s ∧ OutputsInv s := by
  simp only [State.Inv, and_assoc]

/-- A channel with nothing counted meets its invariants in every state: `T` is positive. -/
theorem channelInv_of_btnConf_eq_zero {s : State} (hT : 1 ≤ s.cfg.debounceThreshold) (h0 : s.btnConf = 0) :
    ChannelInv s :=
  ⟨h0.trans_le (Nat.zero_le _), fun _ => h0, fun _ => h0.trans_lt hT⟩

/-- Five arms of `DEB` zero the count and two change nothing; `DEB.PP` is bounded by its `min`, `DEB.RRN` by its
selection. -/
theorem channelInv_deb {s : State} (hT : 1 ≤ s.cfg.debounceThreshold) (h : ChannelInv s) (b : Bool) :
    ChannelInv (deb b s) := by
  rcases deb_cases b s with
    ⟨-, -, hd⟩ | ⟨-, -, hd⟩ | ⟨hq, -, hd⟩ | ⟨-, -, -, hd⟩ | ⟨-, -, -, hd⟩ | ⟨-, -, hd⟩ | ⟨hq, -, hlt, hd⟩ |
      ⟨-, -, -, hd⟩ | ⟨-, hd⟩ <;> rw [hd]
  · exact channelInv_of_btnConf_eq_zero hT rfl
  · exact h
  · exact ⟨Nat.min_le_right .., by simp [debPp, hq], by simp [debPp, hq]⟩
  · exact channelInv_of_btnConf_eq_zero hT rfl
  · exact channelInv_of_btnConf_eq_zero hT rfl
  · exact channelInv_of_btnConf_eq_zero hT rfl
  · exact ⟨hlt.le, by simp [debRrn, hq], fun _ => hlt⟩
  · exact channelInv_of_btnConf_eq_zero hT rfl
  · exact h

/-! ### The counter -/

theorem le_incTicks_saturate (e : TickCount) : e.toNat ≤ (incTicks .saturate e).toNat := by
  by_cases h : e.toNat < tickTop
  · rw [incTicks_of_lt _ _ h]
    exact Nat.le_succ _
  · rw [incTicks_of_top _ _ h]

/-- The count and `fire` after a counted tick agree as R43 asks, if they did before it. -/
theorem fireMatchesCount_tickWork {s : State} (h : FireMatchesCount s) : FireMatchesCount (tickWork s) := by
  obtain ⟨-, hfired⟩ := h
  rw [tickWork_eq]
  refine ⟨fun habove => if_pos habove, fun hsat hfire => ?_⟩
  by_contra hbelow
  have hprev : s.cfg.cutdownTicks < s.elapsed.toNat := hfired hsat ((if_neg hbelow).symm.trans hfire)
  have hmono : s.elapsed.toNat ≤ (incTicks s.cfg.overflow s.elapsed).toNat :=
    (show s.cfg.overflow = .saturate from hsat) ▸ le_incTicks_saturate s.elapsed
  exact hbelow (hprev.trans_le hmono)

/-! ### Every operation -/

section
variable {s : State} (h : s.Inv)
include h

theorem inv_resetBlock : s.resetBlock.Inv := by
  obtain ⟨hv, -⟩ := h
  exact inv_resetOf hv

/-- No invariant speaks of the tick flag. -/
theorem inv_setTickFlag (v : Bool) : (s.setTickFlag v).Inv := h

theorem inv_deb (b : Bool) : (deb b s).Inv := by
  obtain ⟨hv, hchan, hout⟩ := (inv_iff s).1 h
  have hout' : OutputsInv (deb b s) := by rw [deb_frame]; exact hout
  exact (inv_iff _).2 ⟨by simpa using hv, channelInv_deb hv.1 hchan b, hout'⟩

/-- A counted tick toggles both blinkers, in `Running` only. -/
theorem inv_tck : (tck s).Inv := by
  rcases tck_cases s with ⟨-, hrun, ht⟩ | ⟨-, ht⟩ <;> rw [ht]
  · obtain ⟨hv, hchan, -, hphase, hfire⟩ := (inv_iff s).1 h
    have hwork : FireMatchesCount (tickWork (s.setTickFlag false)) := fireMatchesCount_tickWork hfire
    rw [tickWork_eq] at hwork ⊢
    refine (inv_iff _).2 ⟨hv, hchan, fun hne => absurd hrun hne, ?_, hwork⟩
    simpa [BlinkersInPhase] using hphase
  · exact inv_setTickFlag h false

/-- `FSM.ARM` leaves an idle channel in a device that has not run, and past `FSM.SR` nothing asks for quiet. -/
theorem inv_fsm : (fsm s).Inv := by
  obtain ⟨hv, ⟨hbound, hidle, hopen⟩, hquiet, hphase, hfire⟩ := (inv_iff s).1 h
  rcases fsm_cases s with ⟨hoff, hq, hf⟩ | ⟨-, -, hf⟩ | ⟨-, hf⟩ | ⟨-, hf⟩ <;> rw [hf]
  · have hzero : s.btnConf = 0 := hidle (.inr hq)
    exact (inv_iff _).2
      ⟨hv, channelInv_of_btnConf_eq_zero hv.1 hzero, fun _ => hquiet (by simp [hoff]), hphase, hfire⟩
  · exact h
  · exact (inv_iff _).2 ⟨hv, ⟨hbound, hidle, hopen⟩, fun hne => absurd rfl hne, hphase, hfire⟩
  · exact h

theorem inv_iteration (b : Bool) : (iteration b s).Inv := inv_fsm (inv_tck (inv_deb h b))

end

/-- Settles O31: every operation that an instruction can run keeps the invariants. -/
theorem everyInstructionKeepsInvariants : Obligations.EveryInstructionKeepsInvariants := by
  intro i s t h hexec
  cases runs_of_exec hexec with
  | reset => exact inv_resetBlock h
  | nop => exact h
  | tick => exact inv_setTickFlag h true
  | step b => exact inv_iteration h b
  | stept b => exact inv_setTickFlag (inv_iteration h b) true
  | debArm hi b => exact inv_deb h b
  | tckArm hi => exact inv_tck h
  | fsmArm hi => exact inv_fsm h

end Sys2Proof.Machine
end

section
/-! `DEB` arm by arm (R100 to R109): the arm that its selector word selects, what each arm by itself does, and how the
filter and the device-state machine stand to a tick (R58). -/

namespace Sys2Proof.Machine

/-! ### The selection of `DEB` -/

/-- On a legal build an arm that its rule selects answers with its effect (R77 to R79). -/
theorem State.completeArm_of_selected {s : State} (hv : s.cfg.Valid) {sel : Bool} (hsel : sel = true) (arm : String)
    (t : State) : s.completeArm arm sel t = .next t :=
  (State.completeArm_eq_next ..).2 ⟨hsel, hv, rfl⟩

/-- The table of R77: the arm for `btn_state`, `s`, `eqT` and `nxT`. -/
def debArmOf (q : BtnState) (b eqT nxT : Bool) : Instr :=
  match q with
  | .unpressed => if b then .debUp else .debUr
  | .pressPending => if b then .debPp else if eqT then .debPrc else .debPrb
  | .releasePending => if b then .debRp else if nxT then .debRrc else .debRrn
  | .pressed => .debL

theorem decodeDebArm_debWord (q : BtnState) :
    ∀ b eqT nxT : Bool, decodeDebArm (debWord q b eqT nxT) = debArmOf q b eqT nxT := by
  cases q <;> decide

theorem decode_debSelector (b : Bool) (s : State) :
    decode (debSelector b s) = .ok (debArmOf s.btnState b (confFull s) (confFills s)) := by
  rw [debSelector, decode_debArm, decodeDebArm_debWord]

/-- The arm that the table gives for a state and a sample has there the effect of `DEB` (R100). -/
theorem exec_debArmOf {s : State} (hv : s.cfg.Valid) (b : Bool) :
    exec (debArmOf s.btnState b (confFull s) (confFills s)) s = .next (deb b s) := by
  unfold deb
  cases hq : s.btnState with
  | unpressed => cases b <;> exact State.completeArm_of_selected hv (by simp [hq]) ..
  | pressPending =>
    cases b <;> cases hfull : confFull s <;> exact State.completeArm_of_selected hv (by simp [hq, hfull]) ..
  | releasePending =>
    cases b <;> cases hfills : confFills s <;> exact State.completeArm_of_selected hv (by simp [hq, hfills]) ..
  | pressed => exact State.completeArm_of_selected hv (by simp [hq]) ..

/-- Settles O16: the selector word decodes to the arm of the table, which runs as `DEB`. -/
theorem debRunsItsSelectedArm : Obligations.DebRunsItsSelectedArm :=
  fun b s hv => ⟨_, decode_debSelector b s, exec_debArmOf hv b⟩

/-! ### The arms by themselves -/

theorem confFills_iff (s : State) : confFills s = true ↔ s.cfg.debounceThreshold ≤ s.btnConf + 1 := by
  simp [confFills, nextConf]

/-- Settles O9: `Unpressed` selects both arms. -/
theorem unpressedArms : Obligations.UnpressedArms := fun _ hv hq =>
  ⟨State.completeArm_of_selected hv (by simp [hq]) .., State.completeArm_of_selected hv (by simp [hq]) ..⟩

/-- Settles O10: `btn_conf = T` selects `DEB.PRC`, `btn_conf < T` selects `DEB.PRB`. -/
theorem pressPendingArms : Obligations.PressPendingArms := by
  intro s hv hq
  refine ⟨State.completeArm_of_selected hv (by simp [hq]) .., fun hfull => ?_, fun hlt => ?_⟩
  · exact State.completeArm_of_selected hv (by simp [hq, confFull, hfull]) ..
  · exact State.completeArm_of_selected hv (by simp [hq, confFull, hlt.ne]) ..

/-- Settles O11: whether one more sample fills the count selects `DEB.RRN` or `DEB.RRC`. -/
theorem releasePendingArms : Obligations.ReleasePendingArms := by
  intro s hv hq
  refine ⟨State.completeArm_of_selected hv (by simp [hq]) .., fun hlt => ?_, fun hfills => ?_⟩
  · have hopen : confFills s = false := eq_false_of_ne_true fun hfills => hlt.not_ge ((confFills_iff s).1 hfills)
    exact State.completeArm_of_selected hv (by simp [hq, hopen]) ..
  · exact State.completeArm_of_selected hv (by simp [hq, (confFills_iff s).2 hfills]) ..

/-- Settles O12: `Pressed` selects `DEB.L`, and the table gives no other arm there. -/
theorem pressedIsLatched : Obligations.PressedIsLatched := fun s hv hq =>
  ⟨State.completeArm_of_selected hv (by simp [hq]) .., fun b => by rw [decode_debSelector, hq]; rfl⟩

/-! ### A tick beside the filter and the device-state machine -/

theorem deb_raiseTick (b : Bool) (s : State) : deb b s.raiseTick = (deb b s).raiseTick := by
  have hfull : confFull s.raiseTick = confFull s := rfl
  have hfills : confFills s.raiseTick = confFills s := rfl
  unfold deb
  rw [hfull, hfills, State.raiseTick_btnState]
  split
  · split <;> rfl
  · split
    · rfl
    · split <;> rfl
  · split
    · rfl
    · split <;> rfl
  · rfl

theorem fsm_raiseTick (s : State) : fsm s.raiseTick = (fsm s).raiseTick := by
  unfold fsm
  rw [State.raiseTick_devState, State.raiseTick_btnState]
  split
  · split <;> rfl
  · rfl
  · rfl

/-- Settles O38: a tick is moved past `DEB` to the front of an iteration, past `FSM` to its end. -/
theorem tickCommutesWithDebAndFsm : Obligations.TickCommutesWithDebAndFsm := fun b s =>
  ⟨deb_raiseTick b s, fsm_raiseTick s, by rw [iteration, deb_raiseTick], fsm_raiseTick _⟩

end Sys2Proof.Machine
end

section
/-! The filter over lists of samples: what a run of equal samples does (R111), what every commit has behind it (R112,
R114), the button held in `Off` (R113) and the press committed after arming (R156). -/

namespace Sys2Proof.Machine

/-! ### Runs of equal samples -/

theorem debRun_replicate_of_fixed {b : Bool} {s : State} (hfix : deb b s = s) (n : Nat) :
    debRun (List.replicate n b) s = s := by
  induction n with
  | zero => rfl
  | succ n ih => rw [List.replicate_succ, debRun, hfix, ih]

/-- A run whose second sample changes nothing more does what its first sample does. -/
theorem debRun_replicate_of_idem {b : Bool} {s t : State} {n : Nat} (hn : 1 ≤ n) (hfirst : deb b s = t)
    (hfix : deb b t = t) : debRun (List.replicate n b) s = t := by
  obtain ⟨m, rfl⟩ := Nat.exists_eq_add_of_le' hn
  rw [List.replicate_succ, debRun, hfirst, debRun_replicate_of_fixed hfix]

theorem deb_false_of_pressPending_lt {s : State} (hq : s.btnState = .pressPending)
    (hlt : s.btnConf < s.cfg.debounceThreshold) : deb false s = debPrb s := by
  simp [deb, hq, confFull, hlt.ne]

theorem deb_true_of_releasePending {s : State} (hq : s.btnState = .releasePending) : deb true s = debRp s := by
  simp [deb, hq]

theorem deb_true_of_unpressed {s : State} (hq : s.btnState = .unpressed) : deb true s = debUp s := by
  simp [deb, hq]

theorem deb_false_of_unpressed {s : State} (hq : s.btnState = .unpressed) : deb false s = s := by
  simp [deb, hq, debUr]

/-- Released samples from an empty count: they count up to `T - 1`, the next one commits, and `Pressed` is latched
(R111 (f)). -/
theorem debRun_release_of_releasePending {s : State} (hT : 1 ≤ s.cfg.debounceThreshold)
    (hq : s.btnState = .releasePending) (h0 : s.btnConf = 0) (n : Nat) :
    debRun (List.replicate n false) s =
      if n < s.cfg.debounceThreshold then s.setBtnConf n else (s.setBtnState .pressed).setBtnConf 0 := by
  split
  case isTrue hn =>
    rw [debRun_replicate_false_of_releasePending n hq (by omega), h0, Nat.zero_add]
  case isFalse hn =>
    obtain ⟨k, hk⟩ := Nat.exists_eq_add_of_le' hT
    obtain ⟨m, rfl⟩ := Nat.exists_eq_add_of_le (show k + 1 ≤ n by omega)
    have hcount : debRun (List.replicate k false) s = s.setBtnConf k := by
      rw [debRun_replicate_false_of_releasePending k hq (by omega), h0, Nat.zero_add]
    have hcommit : deb false (s.setBtnConf k) = (s.setBtnState .pressed).setBtnConf 0 := by
      simp [deb, hq, confFills, nextConf, hk, debRrc, State.setBtnConf, State.setBtnState]
    rw [List.replicate_add, List.replicate_succ', debRun_append, debRun_append, hcount, debRun, hcommit,
      debRun_of_pressed rfl, debRun]

/-- Settles O39: the leading released samples and the bounce runs change nothing after their first sample; the other
runs count. -/
theorem sampleRunLaws : Obligations.SampleRunLaws := by
  intro s n hv
  obtain ⟨hT, -⟩ := hv
  refine ⟨fun hq => ?_, fun hq hn => ?_, fun hq hlt hn => ?_, fun hq h0 => ?_, fun hq hfull hn => ?_,
    fun hq hn => ?_, fun hq h0 => ?_⟩
  · exact debRun_replicate_of_fixed (deb_false_of_unpressed hq) n
  · obtain ⟨m, rfl⟩ := Nat.exists_eq_add_of_le' hn
    rw [List.replicate_succ, debRun, deb_true_of_unpressed hq,
      debRun_replicate_true_of_pressPending m rfl (Nat.zero_le _)]
    simp [debUp, State.setBtnState, State.setBtnConf]
  · exact debRun_replicate_of_idem hn (deb_false_of_pressPending_lt hq hlt) (deb_false_of_pressPending_lt hq hT)
  · rw [debRun_replicate_true_of_pressPending n hq (h0 ▸ Nat.zero_le _), h0, Nat.zero_add]
    rfl
  · obtain ⟨m, rfl⟩ := Nat.exists_eq_add_of_le' hn
    have hprc : deb false s = debPrc s := by simp [deb, hq, confFull, hfull]
    rw [List.replicate_succ, debRun, hprc, debRun_release_of_releasePending (s := debPrc s) hT rfl rfl]
    rfl
  · exact debRun_replicate_of_idem hn (deb_true_of_releasePending hq) (deb_true_of_releasePending hq)
  · exact debRun_release_of_releasePending hT hq h0 n

/-! ### What a commit has behind it -/

/-- The samples hold `T` consecutive pressed ones and, after them, `n` consecutive released ones at their end. -/
def PressThenReleasing (T n : Nat) (bs : List Bool) : Prop :=
  ∃ press rel, bs = press ++ rel ∧ List.replicate T true <:+: press ∧ List.replicate n false <:+ rel

/-- The samples hold `T` consecutive pressed ones and, after them, `T` consecutive released ones. -/
def PressThenRelease (T : Nat) (bs : List Bool) : Prop :=
  ∃ before between after,
    bs = before ++ List.replicate T true ++ between ++ List.replicate T false ++ after

/-- What the channel remembers of the samples `bs` it has seen: a pending count is a run of its sample at their end,
`ReleasePending` has the press behind it, and `Pressed` both runs (R112, R114). -/
def Accounts (bs : List Bool) (s : State) : Prop :=
  match s.btnState with
  | .unpressed => True
  | .pressPending => List.replicate s.btnConf true <:+ bs
  | .releasePending => PressThenReleasing s.cfg.debounceThreshold s.btnConf bs
  | .pressed => PressThenRelease s.cfg.debounceThreshold bs

theorem replicate_succ_suffix_concat {n : Nat} {b : Bool} {bs : List Bool} (h : List.replicate n b <:+ bs) :
    List.replicate (n + 1) b <:+ bs ++ [b] := by
  obtain ⟨as, rfl⟩ := h
  exact ⟨as, by rw [List.replicate_succ', List.append_assoc]⟩

theorem replicate_suffix_of_le {m n : Nat} {b : Bool} {bs : List Bool} (hle : m ≤ n)
    (h : List.replicate n b <:+ bs) : List.replicate m b <:+ bs :=
  (List.suffix_replicate_iff.2 ⟨by simpa using hle, by simp⟩).trans h

/-- The sample after a full press opens the release, whatever is counted of it. -/
theorem PressThenReleasing.of_press {T : Nat} {bs : List Bool} (h : List.replicate T true <:+ bs) (b : Bool) :
    PressThenReleasing T 0 (bs ++ [b]) :=
  ⟨bs, [b], rfl, h.isInfix, List.nil_suffix⟩

theorem PressThenReleasing.restart {T n : Nat} {bs : List Bool} (h : PressThenReleasing T n bs) (b : Bool) :
    PressThenReleasing T 0 (bs ++ [b]) := by
  obtain ⟨press, rel, rfl, hpress, -⟩ := h
  exact ⟨press, rel ++ [b], List.append_assoc .., hpress, List.nil_suffix⟩

theorem PressThenReleasing.count {T n : Nat} {bs : List Bool} (h : PressThenReleasing T n bs) :
    PressThenReleasing T (n + 1) (bs ++ [false]) := by
  obtain ⟨press, rel, rfl, hpress, hrel⟩ := h
  exact ⟨press, rel ++ [false], List.append_assoc .., hpress, replicate_succ_suffix_concat hrel⟩

theorem PressThenReleasing.complete {T n : Nat} {bs : List Bool} (h : PressThenReleasing T n bs) (hle : T ≤ n) :
    PressThenRelease T bs := by
  obtain ⟨press, rel, rfl, ⟨before, mid, rfl⟩, hrel⟩ := h
  obtain ⟨gap, rfl⟩ := replicate_suffix_of_le hle hrel
  exact ⟨before, mid ++ gap, [], by simp only [List.append_assoc, List.append_nil]⟩

theorem PressThenRelease.concat {T : Nat} {bs : List Bool} (h : PressThenRelease T bs) (b : Bool) :
    PressThenRelease T (bs ++ [b]) := by
  obtain ⟨before, between, after, rfl⟩ := h
  exact ⟨before, between, after ++ [b], List.append_assoc ..⟩

/-- Each arm of `DEB` keeps the account of the samples. -/
theorem accounts_deb {bs : List Bool} {s : State} (h : Accounts bs s) (b : Bool) :
    Accounts (bs ++ [b]) (deb b s) := by
  unfold Accounts at h
  rcases deb_cases b s with
    ⟨hq, rfl, hd⟩ | ⟨hq, rfl, hd⟩ | ⟨hq, rfl, hd⟩ | ⟨hq, rfl, hfull, hd⟩ | ⟨hq, rfl, -, hd⟩ | ⟨hq, rfl, hd⟩ |
      ⟨hq, rfl, -, hd⟩ | ⟨hq, rfl, hfills, hd⟩ | ⟨hq, hd⟩ <;> simp only [hq] at h <;> rw [hd]
  · exact List.nil_suffix
  · simp [Accounts, hq]
  · simpa [Accounts, debPp, nextConf, hq] using
      replicate_suffix_of_le (Nat.min_le_left ..) (replicate_succ_suffix_concat h)
  · exact .of_press (hfull ▸ h) false
  · simp [Accounts, debPrb, hq]
  · simpa [Accounts, debRp, hq] using h.restart true
  · simpa [Accounts, debRrn, hq] using h.count
  · exact h.count.complete hfills
  · simpa [Accounts, hq] using h.concat b

theorem accounts_debRun {seen : List Bool} {s : State} (h : Accounts seen s) (bs : List Bool) :
    Accounts (seen ++ bs) (debRun bs s) := by
  induction bs generalizing seen s with
  | nil => simpa [debRun] using h
  | cons b bs ih => simpa [debRun] using ih (accounts_deb h b)

@[simp] theorem debRun_cfg (bs : List Bool) (s : State) : (debRun bs s).cfg = s.cfg := by
  induction bs generalizing s with
  | nil => rfl
  | cons b bs ih => rw [debRun, ih, deb_cfg]

/-- Settles O41: the channel accounts for its samples from `Unpressed` on, where nothing is to account for. -/
theorem commitNeedsBothRuns : Obligations.CommitNeedsBothRuns := by
  intro s bs _ hq hcommit
  have hidle : Accounts [] s := by simp [Accounts, hq]
  have hrun : Accounts bs (debRun bs s) := accounts_debRun hidle bs
  have hboth : PressThenRelease (debRun bs s).cfg.debounceThreshold bs := by simpa [Accounts, hcommit] using hrun
  rwa [debRun_cfg] at hboth

/-! ### The held button -/

/-- In `Off` an iteration that does not commit is `DEB`, with a pending tick dropped (R134, R152). -/
theorem iteration_of_off {s : State} {b : Bool} (hoff : s.devState = .off) (hq : (deb b s).btnState ≠ .pressed) :
    iteration b s = (deb b s).setTickFlag false := by
  have htck : tck (deb b s) = (deb b s).setTickFlag false :=
    ((tck_cases (deb b s)).resolve_left (by simp [hoff])).2
  rw [iteration, htck]
  simp [fsm, fsmOff, hoff, hq]

/-- Settles O42: the first iteration enters `PressPending` and drops a pending tick, so the others are pressed
samples through the filter, which saturate. -/
theorem heldButtonNeverArms : Obligations.HeldButtonNeverArms := by
  intro s n hv hq hoff
  set t := (debUp s).setTickFlag false
  have hfirst : iteration true s = t := by
    rw [iteration_of_off hoff (deb_true_of_unpressed hq ▸ nofun), deb_true_of_unpressed hq]
  have hrun : debRun (List.replicate n true) t = t.setBtnConf (min n s.cfg.debounceThreshold) := by
    rw [debRun_replicate_true_of_pressPending n rfl (Nat.zero_le _)]
    exact congrArg (fun k => t.setBtnConf (min k _)) (Nat.zero_add n)
  have htrace : runTrace ((List.replicate n true).map stepWord) t = .next (debRun (List.replicate n true) t) :=
    runTrace_stepWords (s := t) hv rfl hoff (hrun ▸ nofun)
  refine ⟨debRun (List.replicate n true) t, ?_, by rw [hrun]; exact ⟨hoff, rfl, rfl⟩⟩
  calc runTrace (List.replicate (n + 1) 5) s
      = runTrace (stepWord true :: (List.replicate n true).map stepWord) s := by rw [List.map_replicate]; rfl
    _ = runTrace ((List.replicate n true).map stepWord) t := by rw [runTrace_stepWord_cons hv, hfirst]
    _ = .next (debRun (List.replicate n true) t) := htrace

/-! ### A press committed after arming -/

/-- The channel holds a committed press that no `FSM` consumes (R156). -/
def LateCommit (s : State) : Prop := s.btnState = .pressed ∧ s.devState ≠ .off

theorem lateCommit_iteration {s : State} (h : LateCommit s) (b : Bool) : LateCommit (iteration b s) := by
  obtain ⟨hq, hd⟩ := h
  have hq' : (tck s).btnState = .pressed := (tck_btnState s).trans hq
  have hd' : (tck s).devState ≠ .off := by rwa [tck_devState]
  rw [iteration, deb_of_pressed hq]
  rcases fsm_cases (tck s) with ⟨hoff, -⟩ | ⟨hoff, -⟩ | ⟨-, hf⟩ | ⟨-, hf⟩
  · exact absurd hoff hd'
  · exact absurd hoff hd'
  · rw [hf]
    exact ⟨hq', nofun⟩
  · rw [hf]
    exact ⟨hq', hd'⟩

/-- Settles O47: the four commands without `rst` are the iteration, the tick, both or neither. -/
theorem laterCommitNeverConsumed : Obligations.LaterCommitNeverConsumed := by
  intro w s hv hd hq hrst
  have hlate : LateCommit s := ⟨hq, hd⟩
  have hiter : LateCommit (iteration (cmdBtnRaw w) s) := lateCommit_iteration hlate _
  rw [decodeCmd, hrst]
  cases cmdStepEn w <;> cases cmdTickSet w
  · exact ⟨s, State.complete_of_valid hv _, hlate⟩
  · exact ⟨s.raiseTick, State.complete_of_valid hv _, hlate⟩
  · exact ⟨_, State.complete_of_valid hv _, hiter⟩
  · exact ⟨_, State.complete_of_valid hv _, hiter⟩

end Sys2Proof.Machine
end

section
/-! `TCK` arm by arm (R131 to R136) and the tick that it counts: the arm that its selector word selects, what each arm by
itself does, and what raises `fire` (R140). -/

namespace Sys2Proof.Machine

/-! ### TICK -/

/-- Settles O3: `tick_flag <- 1` is the whole of `State.raiseTick`. -/
theorem tickSetsFlagOnly : Obligations.TickSetsFlagOnly := fun _ b hv =>
  ⟨by cases b <;> rfl, State.complete_of_valid hv _⟩

/-- The flag is one bit, so a pending tick takes in the next one (R28, R141). -/
theorem raiseTick_of_pending {s : State} (hflag : s.tickFlag = true) : s.raiseTick = s :=
  calc s.raiseTick = s.setTickFlag s.tickFlag := by rw [hflag]; rfl
    _ = s := rfl

/-- Settles O4: setting a set flag is no change. -/
theorem tickOnSetFlagMerges : Obligations.TickOnSetFlagMerges := fun s hv hflag =>
  calc exec .tick s = .next s.raiseTick := State.complete_of_valid hv _
    _ = .next s := by rw [raiseTick_of_pending hflag]

/-! ### The arms by themselves -/

/-- Settles O13: each of the three states selects its arm, whose effect is written out in its definition. -/
theorem tickDroppingArms : Obligations.TickDroppingArms := fun _ hv =>
  ⟨fun hflag => State.completeArm_of_selected hv (by simp [hflag]) ..,
    fun hflag hd => State.completeArm_of_selected hv (by simp [hflag, hd]) ..,
    fun hflag hd => State.completeArm_of_selected hv (by simp [hflag, hd]) ..⟩

/-- Settles O14: the new count is `inc(elapsed)`, and the per-tick work gives the other fields. -/
theorem tickCountingArm : Obligations.TickCountingArm := by
  intro s hv hflag hd
  refine ⟨incTicks s.cfg.overflow s.elapsed, incTicks_of_lt _ _, fun htop ho => ?_, fun htop ho => ?_, ?_⟩
  · rw [incTicks_of_top _ _ htop.not_lt, ho]
  · rw [incTicks_of_top _ _ htop.not_lt, ho]
  · calc exec .tckR s = .next (tickWork (s.setTickFlag false)) :=
          State.completeArm_of_selected hv (by simp [hflag, hd]) ..
      _ = _ := by rw [tickWork_eq]; rfl

/-! ### The selection of `TCK` -/

/-- The table of R78: the arm for `tick_flag` and `dev_state`. -/
def tckArmOf (flag : Bool) (d : DevState) : Instr :=
  if flag then
    match d with
    | .off => .tckO
    | .startRunning => .tckS
    | .running => .tckR
  else .tckN

theorem decodeTckArm_tckWord (flag : Bool) (d : DevState) :
    decodeTckArm (tckWord flag d) = some (tckArmOf flag d) := by
  cases flag <;> cases d <;> rfl

theorem decode_tckSelector (s : State) : decode (tckSelector s) = .ok (tckArmOf s.tickFlag s.devState) := by
  rw [tckSelector, decode_tckArm, decodeTckArm_tckWord]
  rfl

/-- The arm that the table gives for a state has there the effect of `TCK` (R131). -/
theorem exec_tckArmOf {s : State} (hv : s.cfg.Valid) : exec (tckArmOf s.tickFlag s.devState) s = .next (tck s) := by
  rcases tck_cases s with ⟨hflag, hd, h⟩ | ⟨hdrop, h⟩ <;> rw [h]
  · rw [hflag, hd]
    exact State.completeArm_of_selected hv (by simp [hflag, hd]) ..
  · cases hflag : s.tickFlag with
    | false =>
      calc exec .tckN s = .next (s.setTickFlag s.tickFlag) := State.completeArm_of_selected hv (by simp [hflag]) ..
        _ = .next (s.setTickFlag false) := by rw [hflag]
    | true =>
      cases hd : s.devState with
      | off | startRunning => exact State.completeArm_of_selected hv (by simp [hflag, hd]) ..
      | running => exact absurd ⟨hflag, hd⟩ hdrop

/-- Settles O17: the selector word decodes to the arm of the table, which runs as `TCK`. -/
theorem tckRunsItsSelectedArm : Obligations.TckRunsItsSelectedArm :=
  fun s hv => ⟨_, decode_tckSelector s, exec_tckArmOf hv⟩

/-! ### What raises `fire` -/

/-- `TCK` raises `fire` by the per-tick work alone, on a new count above `C` (R139, R140). -/
theorem tck_raises_fire {s : State} (hs : s.fire = false) (ht : (tck s).fire = true) :
    s.devState = .running ∧ s.tickFlag = true ∧ s.cfg.cutdownTicks < (tck s).elapsed.toNat := by
  rcases tck_cases s with ⟨hflag, hd, h⟩ | ⟨-, h⟩ <;> rw [h] at ht ⊢
  · refine ⟨hd, hflag, ?_⟩
    rw [tickWork_eq] at ht ⊢
    by_contra hbelow
    exact Bool.false_ne_true (hs.symm.trans ((if_neg hbelow).symm.trans ht))
  · exact absurd (hs.symm.trans ht) Bool.false_ne_true

/-- On a tick pending in `Running` no arm of `TCK` runs but `TCK.R` (R78). -/
theorem eq_tckR_of_exec {i : Instr} {s t : State} (hi : i ∈ tckArms) (h : exec i s = .next t)
    (hd : s.devState = .running) (hflag : s.tickFlag = true) : i = .tckR := by
  simp only [tckArms, List.mem_cons, List.not_mem_nil, or_false] at hi
  rcases hi with rfl | rfl | rfl | rfl
  · simp [exec, execTckN, hflag] at h
  · simp [exec, execTckO, hd] at h
  · simp [exec, execTckS, hd] at h
  · rfl

/-- Settles O37: of the operations only `TCK`, alone or inside an iteration, writes a 1 to `fire`. -/
theorem failsClosed : Obligations.FailsClosed := by
  intro i s t h hs ht
  cases runs_of_exec h with
  | reset => exact absurd ht Bool.false_ne_true
  | nop | tick => exact absurd (hs.symm.trans ht) Bool.false_ne_true
  | step b | stept b =>
    have hraise := tck_raises_fire (s := deb b s) (by simpa using hs) (by simpa using ht)
    exact ⟨.inr ⟨b, by simp⟩, by simpa using hraise⟩
  | debArm hi b => exact absurd (hs.symm.trans (deb_fire b s ▸ ht)) Bool.false_ne_true
  | tckArm hi =>
    obtain ⟨hd, hflag, habove⟩ := tck_raises_fire hs ht
    exact ⟨.inl (eq_tckR_of_exec hi h hd hflag), hd, hflag, habove⟩
  | fsmArm hi => exact absurd (hs.symm.trans (fsm_fire s ▸ ht)) Bool.false_ne_true

end Sys2Proof.Machine
end

section
/-! Runs on a legal build: every command word has its clock edge (R173, R190), so a run over a trace is edge after edge,
and the counts over a trace add up edge by edge. -/

namespace Sys2Proof.Machine

/-- The clock edge with a command word on the ports (R74, R173). -/
def wordEdge (w : CmdWord) (s : State) : State :=
  clockEdge (cmdRst w) (cmdStepEn w) (cmdTickSet w) (cmdBtnRaw w) s

/-- A tick pending in `Running`: the next iteration will count it (R136). -/
def pendingInRunning (s : State) : Nat := (s.tickFlag && s.devState == .running).toNat

section
variable {s : State} (hv : s.cfg.Valid)
include hv

/-- The compare value can be exceeded: it is below the top of the counter (R6). -/
theorem cutdownTicks_lt_tickTop : s.cfg.cutdownTicks < tickTop := by
  obtain ⟨-, hC⟩ := hv
  exact Nat.lt_of_le_sub_one (by decide) hC

theorem exec_decodeCmd (w : CmdWord) : exec (decodeCmd w) s = .next (wordEdge w s) := by
  rw [decodeCmd, wordEdge]
  cases cmdRst w with
  | true => exact State.complete_of_valid hv _
  | false => cases cmdStepEn w <;> cases cmdTickSet w <;> exact State.complete_of_valid hv _

theorem valid_wordEdge (w : CmdWord) : (wordEdge w s).cfg.Valid :=
  (runs_of_exec (exec_decodeCmd hv w)).cfg_eq ▸ hv

theorem runTrace_cons (w : CmdWord) (ws : List CmdWord) : runTrace (w :: ws) s = runTrace ws (wordEdge w s) :=
  runTrace_cons_of_exec (exec_decodeCmd hv w)

theorem runTrace_cfg {ws : List CmdWord} {t : State} (hrun : runTrace ws s = .next t) : t.cfg = s.cfg := by
  induction ws generalizing s with
  | nil =>
    cases hrun
    rfl
  | cons w ws ih =>
    rw [runTrace_cons hv] at hrun
    rw [ih (valid_wordEdge hv w) hrun, (runs_of_exec (exec_decodeCmd hv w)).cfg_eq]

theorem ticksCounted_cons (w : CmdWord) (ws : List CmdWord) :
    ticksCounted (w :: ws) s =
      (wordIterates w && s.tickFlag && s.devState == .running).toNat + ticksCounted ws (wordEdge w s) := by
  rw [ticksCounted, exec_decodeCmd hv]

theorem ticksRaisedRunning_cons (w : CmdWord) (ws : List CmdWord) :
    ticksRaisedRunning (w :: ws) s =
      (wordTicks w && (wordEdge w s).devState == .running).toNat + ticksRaisedRunning ws (wordEdge w s) := by
  rw [ticksRaisedRunning, exec_decodeCmd hv]

end

end Sys2Proof.Machine
end

section
/-! The counted ticks (R43): without `rst` the count, the blinkers and `fire` are functions of the number of ticks
counted, which `TCK` keeps and nothing else moves. -/

namespace Sys2Proof.Machine

/-- The count after `n` counted ticks (R43, R137). -/
def countAfter (o : Overflow) (n : Nat) : Nat :=
  match o with
  | .saturate => min n tickTop
  | .wrap => n % (tickTop + 1)

/-- The count, the blinkers and `fire` are those of `n` counted ticks since reset (R43). -/
def HasCounted (n : Nat) (s : State) : Prop :=
  s.elapsed.toNat = countAfter s.cfg.overflow n ∧
    s.buzzer = (s.cfg.buzzerInit ^^ decide (n % 2 = 1)) ∧ s.led = (s.cfg.ledInit ^^ decide (n % 2 = 1)) ∧
    (s.fire = true ↔ s.cfg.cutdownTicks < n)

theorem countAfter_of_le {n : Nat} (o : Overflow) (hn : n ≤ tickTop) : countAfter o n = n := by
  cases o with
  | saturate => exact Nat.min_eq_left hn
  | wrap => exact Nat.mod_eq_of_lt (Nat.lt_succ_of_le hn)

theorem countAfter_le (o : Overflow) (n : Nat) : countAfter o n ≤ n := by
  cases o with
  | saturate => exact Nat.min_le_left ..
  | wrap => exact Nat.mod_le ..

/-- `inc` takes the count of `n` ticks to that of `n + 1` (R137). -/
theorem toNat_incTicks_of_countAfter {o : Overflow} {e : TickCount} {n : Nat} (h : e.toNat = countAfter o n) :
    (incTicks o e).toNat = countAfter o (n + 1) := by
  by_cases hlt : e.toNat < tickTop
  · rw [incTicks_of_lt o e hlt]
    cases o <;> simp only [countAfter, tickTop] at h hlt ⊢ <;> omega
  · rw [incTicks_of_top o e hlt]
    cases o with
    | saturate =>
      simp only [countAfter, tickTop] at h hlt ⊢
      omega
    | wrap =>
      have hzero : (0 : TickCount).toNat = 0 := rfl
      simp only [countAfter, tickTop, hzero] at h hlt ⊢
      omega

/-- The strict compare of the new count fires at tick `C + 1` and at no earlier one (R139): the count reaches `C + 1`
because `C` is below the top, and never exceeds the number of ticks. -/
theorem fired_succ_iff {c n : Nat} (o : Overflow) (hc : c < tickTop) :
    c < countAfter o (n + 1) ∨ c < n ↔ c < n + 1 := by
  constructor
  · rintro (habove | hfired)
    · exact habove.trans_le (countAfter_le o _)
    · exact hfired.trans (Nat.lt_succ_self n)
  · intro h
    rcases (Nat.le_of_lt_succ h).lt_or_eq with hfired | rfl
    · exact .inr hfired
    · exact .inl (by rwa [countAfter_of_le o hc])

theorem not_decide_mod_two (n : Nat) : (!decide (n % 2 = 1)) = decide ((n + 1) % 2 = 1) := by
  rw [← decide_not, decide_eq_decide]
  omega

theorem hasCounted_resetBlock (s : State) : HasCounted 0 s.resetBlock := by
  refine ⟨(countAfter_of_le _ (Nat.zero_le _)).symm, ?_, ?_, ?_⟩ <;> simp

section
variable {n : Nat} {s : State} (h : HasCounted n s)
include h

theorem hasCounted_tickWork (hv : s.cfg.Valid) : HasCounted (n + 1) (tickWork s) := by
  obtain ⟨hcount, hbuzzer, hled, hfire⟩ := h
  have hcount' := toNat_incTicks_of_countAfter hcount
  rw [tickWork_eq]
  refine ⟨hcount', ?_, ?_, ?_⟩
  · simp only [hbuzzer, ← Bool.xor_not, not_decide_mod_two]
  · simp only [hled, ← Bool.xor_not, not_decide_mod_two]
  · rw [← fired_succ_iff s.cfg.overflow (cutdownTicks_lt_tickTop hv), ← hcount', ← hfire]
    by_cases habove : s.cfg.cutdownTicks < (incTicks s.cfg.overflow s.elapsed).toNat <;> simp [habove]

theorem hasCounted_deb (b : Bool) : HasCounted n (deb b s) := by
  rw [deb_frame]
  exact h

theorem hasCounted_fsm : HasCounted n (fsm s) := by
  rw [fsm_frame]
  exact h

theorem hasCounted_tck (hv : s.cfg.Valid) : HasCounted (n + pendingInRunning s) (tck s) := by
  rcases tck_cases s with ⟨hflag, hd, ht⟩ | ⟨hdrop, ht⟩ <;> rw [ht]
  · simpa [pendingInRunning, hflag, hd] using hasCounted_tickWork (s := s.setTickFlag false) h hv
  · have hnone : pendingInRunning s = 0 := by simpa [pendingInRunning] using hdrop
    rw [hnone]
    exact h

theorem hasCounted_iteration (hv : s.cfg.Valid) (b : Bool) :
    HasCounted (n + pendingInRunning s) (iteration b s) := by
  simpa [iteration, pendingInRunning] using hasCounted_fsm (hasCounted_tck (hasCounted_deb h b) (by simpa using hv))

/-- Without `rst` a clock edge counts the tick that its iteration finds pending in `Running`. -/
theorem hasCounted_wordEdge (hv : s.cfg.Valid) {w : CmdWord} (hrst : cmdRst w = false) :
    HasCounted (n + (wordIterates w && s.tickFlag && s.devState == .running).toNat) (wordEdge w s) := by
  have hiter := hasCounted_iteration h hv (cmdBtnRaw w)
  rw [wordEdge, clockEdge, wordIterates, hrst]
  cases cmdStepEn w with
  | false => cases cmdTickSet w <;> exact h
  | true => cases cmdTickSet w <;> exact hiter

theorem hasCounted_runTrace {ws : List CmdWord} {t : State} (hv : s.cfg.Valid) (hrst : ∀ w ∈ ws, cmdRst w = false)
    (hrun : runTrace ws s = .next t) : HasCounted (n + ticksCounted ws s) t := by
  induction ws generalizing n s with
  | nil =>
    cases hrun
    exact h
  | cons w ws ih =>
    obtain ⟨hw, hws⟩ := List.forall_mem_cons.1 hrst
    rw [runTrace_cons hv] at hrun
    rw [ticksCounted_cons hv, ← Nat.add_assoc]
    exact ih (hasCounted_wordEdge h hv hw) (valid_wordEdge hv w) hws hrun

end

/-- Settles O48: at reset nothing has been counted, and every clock edge without `rst` keeps the account. -/
theorem countedTicksDetermineOutputs : Obligations.CountedTicksDetermineOutputs := by
  intro s t ws hv hrst hrun
  have hcounted : HasCounted (0 + ticksCounted ws s.resetBlock) t :=
    hasCounted_runTrace (hasCounted_resetBlock s) hv hrst hrun
  obtain ⟨hcount, hbuzzer, hled, hfire⟩ := hcounted
  have hcfg : t.cfg = s.cfg := runTrace_cfg (s := s.resetBlock) hv hrun
  simp only [Nat.zero_add, hcfg] at hcount hbuzzer hled hfire
  refine ⟨fun hn => ?_, fun ho => ?_, fun ho => ?_, hbuzzer, hled, hfire⟩
  · rw [hcount, countAfter_of_le _ hn]
  · rw [hcount, ho]
    rfl
  · rw [hcount, ho]
    rfl

end Sys2Proof.Machine
end

section
/-! `fire` and the ticks raised in `Running` (R140, R230): on any trace the ticks raised in `Running` so far cover the
count, a tick pending in `Running`, and the `C + 1` ticks behind a set `fire`. -/

namespace Sys2Proof.Machine

/-- The `m` ticks raised in `Running` so far cover what has been counted since reset and what is pending, and a `fire`
that is set has `C + 1` of them behind it. -/
def Covers (m : Nat) (s : State) : Prop :=
  s.elapsed.toNat + pendingInRunning s ≤ m ∧ (s.fire = true → s.cfg.cutdownTicks + 1 ≤ m)

theorem pendingInRunning_of_flag_clear {s : State} (hflag : s.tickFlag = false) : pendingInRunning s = 0 := by
  simp [pendingInRunning, hflag]

theorem incTicks_le_succ (o : Overflow) (e : TickCount) : (incTicks o e).toNat ≤ e.toNat + 1 := by
  by_cases h : e.toNat < tickTop
  · exact (incTicks_of_lt o e h).le
  · rw [incTicks_of_top o e h]
    cases o with
    | saturate => exact Nat.le_succ _
    | wrap => exact Nat.zero_le _

theorem covers_resetBlock (m : Nat) (s : State) : Covers m s.resetBlock :=
  ⟨Nat.zero_le m, nofun⟩

section
variable {m : Nat} {s : State} (h : Covers m s)
include h

theorem covers_deb (b : Bool) : Covers m (deb b s) := by
  rw [deb_frame]
  exact h

/-- A counted tick was pending: it moves from there to the count. -/
theorem covers_tck : Covers m (tck s) := by
  obtain ⟨hticks, hfire⟩ := h
  have hpend : pendingInRunning (tck s) = 0 := pendingInRunning_of_flag_clear (tck_tickFlag s)
  rcases tck_cases s with ⟨hflag, hd, ht⟩ | ⟨-, ht⟩
  · have hone : pendingInRunning s = 1 := by simp [pendingInRunning, hflag, hd]
    have hcount : (incTicks s.cfg.overflow s.elapsed).toNat ≤ m :=
      (incTicks_le_succ ..).trans (hone ▸ hticks)
    rw [Covers, hpend, ht, tickWork_eq]
    refine ⟨hcount, fun hfired => ?_⟩
    by_cases habove : s.cfg.cutdownTicks < (incTicks s.cfg.overflow s.elapsed).toNat
    · exact habove.trans_le hcount
    · exact hfire ((if_neg habove).symm.trans hfired)
  · rw [Covers, hpend, ht]
    exact ⟨(Nat.le_add_right ..).trans hticks, hfire⟩

/-- `FSM.SR` enters `Running`: no tick must be pending there, and in an iteration `TCK` has just cleared the flag. -/
theorem covers_fsm (hflag : s.tickFlag = false) : Covers m (fsm s) := by
  obtain ⟨hticks, hfire⟩ := h
  have hpend : pendingInRunning (fsm s) = 0 := pendingInRunning_of_flag_clear ((fsm_tickFlag s).trans hflag)
  rw [Covers, hpend, fsm_elapsed, fsm_fire, fsm_cfg]
  exact ⟨(Nat.le_add_right ..).trans hticks, hfire⟩

theorem covers_iteration (b : Bool) : Covers m (iteration b s) :=
  covers_fsm (covers_tck (covers_deb h b)) (tck_tickFlag _)

/-- A tick raised in `Running` is one more; raised elsewhere it is not pending in `Running`. -/
theorem covers_raiseTick : Covers (m + (s.devState == .running).toNat) s.raiseTick := by
  obtain ⟨hticks, hfire⟩ := h
  have hpend : pendingInRunning s.raiseTick = (s.devState == .running).toNat := by simp [pendingInRunning]
  rw [Covers, hpend]
  exact ⟨Nat.add_le_add_right ((Nat.le_add_right ..).trans hticks) _,
    fun hfired => (hfire hfired).trans (Nat.le_add_right ..)⟩

theorem covers_wordEdge (w : CmdWord) :
    Covers (m + (wordTicks w && (wordEdge w s).devState == .running).toNat) (wordEdge w s) := by
  have htick := covers_raiseTick h
  have hiter := covers_iteration h (cmdBtnRaw w)
  have hiterTick := covers_raiseTick hiter
  rw [wordEdge, clockEdge, wordTicks]
  cases cmdRst w with
  | true => exact covers_resetBlock _ s
  | false =>
    cases cmdStepEn w <;> cases cmdTickSet w
    · exact h
    · exact htick
    · exact hiter
    · exact hiterTick

theorem covers_runTrace {ws : List CmdWord} {t : State} (hv : s.cfg.Valid) (hrun : runTrace ws s = .next t) :
    Covers (m + ticksRaisedRunning ws s) t := by
  induction ws generalizing m s with
  | nil =>
    cases hrun
    exact h
  | cons w ws ih =>
    rw [runTrace_cons hv] at hrun
    rw [ticksRaisedRunning_cons hv, ← Nat.add_assoc]
    exact ih (covers_wordEdge h w) (valid_wordEdge hv w) hrun

end

/-- Settles O49: at reset there is nothing to cover, and every clock edge adds the tick that it raises in `Running`. -/
theorem fireNeedsTicksRaisedInRunning : Obligations.FireNeedsTicksRaisedInRunning := by
  intro s t ws hv hrun hfire
  have hcovers : Covers (0 + ticksRaisedRunning ws s.resetBlock) t := covers_runTrace (covers_resetBlock 0 s) hv hrun
  obtain ⟨-, hfired⟩ := hcovers
  have hcfg : t.cfg = s.cfg := runTrace_cfg (s := s.resetBlock) hv hrun
  rw [← hcfg, ← Nat.zero_add (ticksRaisedRunning ..)]
  exact hfired hfire

end Sys2Proof.Machine
end

section
/-! Two builds that differ in `TICKS_OVERFLOW` alone (R137): their runs differ in `elapsed` alone, and before `fire` is
set, not at all, since a count that has not fired is at most `C` and so below the top. -/

namespace Sys2Proof.Machine

/-- The state on the build with the other overflow choice, at a count of its own. -/
def State.onOverflow (o : Overflow) (e : TickCount) (s : State) : State :=
  { s with cfg := { s.cfg with overflow := o }, elapsed := e }

/-- Before `fire` is set the count `e` is that of `s`, and not above `C` (R139). -/
def UnseenCount (e : TickCount) (s : State) : Prop :=
  s.fire = false → e = s.elapsed ∧ s.elapsed.toNat ≤ s.cfg.cutdownTicks

/-- `s'` is `s` on the build with choice `o`, at a count that no output has shown. -/
def DiffersInOverflow (o : Overflow) (s s' : State) : Prop :=
  ∃ e, s' = s.onOverflow o e ∧ UnseenCount e s

/-! ### Operations that do not look at the count -/

theorem deb_onOverflow (b : Bool) (o : Overflow) (e : TickCount) (s : State) :
    deb b (s.onOverflow o e) = (deb b s).onOverflow o e := by
  have hq : (s.onOverflow o e).btnState = s.btnState := rfl
  have hfull : confFull (s.onOverflow o e) = confFull s := rfl
  have hfills : confFills (s.onOverflow o e) = confFills s := rfl
  rw [deb, deb, hq, hfull, hfills]
  cases s.btnState with
  | unpressed => cases b <;> rfl
  | pressPending => cases b <;> cases confFull s <;> rfl
  | releasePending => cases b <;> cases confFills s <;> rfl
  | pressed => rfl

theorem fsm_onOverflow (o : Overflow) (e : TickCount) (s : State) :
    fsm (s.onOverflow o e) = (fsm s).onOverflow o e := by
  have hd : (s.onOverflow o e).devState = s.devState := rfl
  have hq : (s.onOverflow o e).btnState = s.btnState := rfl
  rw [fsm, fsm, hd, hq]
  cases s.devState with
  | off => cases s.btnState == .pressed <;> rfl
  | startRunning | running => rfl

/-! ### The count -/

/-- Below the top both choices count alike (R137). -/
theorem incTicks_eq_of_lt (o o' : Overflow) {e : TickCount} (h : e.toNat < tickTop) : incTicks o e = incTicks o' e :=
  BitVec.eq_of_toNat_eq ((incTicks_of_lt o e h).trans (incTicks_of_lt o' e h).symm)

section
variable {o : Overflow} {s s' : State} (h : DiffersInOverflow o s s')
include h

theorem differsInOverflow_resetBlock : DiffersInOverflow o s.resetBlock s'.resetBlock := by
  obtain ⟨e, rfl, -⟩ := h
  exact ⟨0, rfl, fun _ => ⟨rfl, Nat.zero_le _⟩⟩

theorem differsInOverflow_raiseTick : DiffersInOverflow o s.raiseTick s'.raiseTick := by
  obtain ⟨e, rfl, hcount⟩ := h
  exact ⟨e, rfl, hcount⟩

theorem differsInOverflow_deb (b : Bool) : DiffersInOverflow o (deb b s) (deb b s') := by
  obtain ⟨e, rfl, hcount⟩ := h
  refine ⟨e, deb_onOverflow b o e s, ?_⟩
  rw [deb_frame]
  exact hcount

theorem differsInOverflow_fsm : DiffersInOverflow o (fsm s) (fsm s') := by
  obtain ⟨e, rfl, hcount⟩ := h
  refine ⟨e, fsm_onOverflow o e s, ?_⟩
  rw [fsm_frame]
  exact hcount

/-- Once `fire` is set it stays, whatever the count does; before, the count is below the top, so both builds compare
the same new count. -/
theorem differsInOverflow_tickWork (hv : s.cfg.Valid) : DiffersInOverflow o (tickWork s) (tickWork s') := by
  obtain ⟨e, rfl, hcount⟩ := h
  cases hfire : s.fire with
  | true =>
    have hstays : (tickWork s).fire = true := by simp [tickWork_eq, hfire]
    exact ⟨incTicks o e, by simp [tickWork_eq, State.onOverflow, hfire],
      fun hunfired => absurd (hunfired.symm.trans hstays) Bool.false_ne_true⟩
  | false =>
    obtain ⟨rfl, hle⟩ := hcount hfire
    have hinc : incTicks o s.elapsed = incTicks s.cfg.overflow s.elapsed :=
      incTicks_eq_of_lt _ _ (hle.trans_lt (cutdownTicks_lt_tickTop hv))
    have hunseen : UnseenCount (incTicks s.cfg.overflow s.elapsed) (tickWork s) := by
      rw [tickWork_eq]
      exact fun hunfired =>
        ⟨rfl, not_lt.1 fun habove => Bool.false_ne_true (hunfired.symm.trans (if_pos habove))⟩
    exact ⟨_, by simp [tickWork_eq, State.onOverflow, hinc], hunseen⟩

theorem differsInOverflow_tck (hv : s.cfg.Valid) : DiffersInOverflow o (tck s) (tck s') := by
  obtain ⟨e, rfl, hcount⟩ := h
  rcases tck_cases s with ⟨hflag, hd, ht⟩ | ⟨hdrop, ht⟩
  · have ht' := ((tck_cases (s.onOverflow o e)).resolve_right fun hn => hn.1 ⟨hflag, hd⟩).2.2
    rw [ht, ht']
    exact differsInOverflow_tickWork (s := s.setTickFlag false) ⟨e, rfl, hcount⟩ hv
  · have ht' := ((tck_cases (s.onOverflow o e)).resolve_left fun hn => hdrop ⟨hn.1, hn.2.1⟩).2
    rw [ht, ht']
    exact ⟨e, rfl, hcount⟩

theorem differsInOverflow_iteration (hv : s.cfg.Valid) (b : Bool) :
    DiffersInOverflow o (iteration b s) (iteration b s') :=
  differsInOverflow_fsm (differsInOverflow_tck (differsInOverflow_deb h b) (by simpa using hv))

theorem differsInOverflow_wordEdge (hv : s.cfg.Valid) (w : CmdWord) :
    DiffersInOverflow o (wordEdge w s) (wordEdge w s') := by
  have hiter := differsInOverflow_iteration h hv (cmdBtnRaw w)
  rw [wordEdge, wordEdge, clockEdge, clockEdge]
  cases cmdRst w with
  | true => exact differsInOverflow_resetBlock h
  | false =>
    cases cmdStepEn w <;> cases cmdTickSet w
    · exact h
    · exact differsInOverflow_raiseTick h
    · exact hiter
    · exact differsInOverflow_raiseTick hiter

theorem differsInOverflow_runTrace (hv : s.cfg.Valid) (ws : List CmdWord) :
    ∃ t t', runTrace ws s = .next t ∧ runTrace ws s' = .next t' ∧ DiffersInOverflow o t t' := by
  induction ws generalizing s s' with
  | nil => exact ⟨s, s', rfl, rfl, h⟩
  | cons w ws ih =>
    have hv' : s'.cfg.Valid := by
      obtain ⟨e, rfl, -⟩ := h
      exact hv
    rw [runTrace_cons hv, runTrace_cons hv']
    exact ih (differsInOverflow_wordEdge h hv w) (valid_wordEdge hv w)

end

/-- Settles O51: the two builds start at the same count, and every clock edge keeps them alike but for the count. -/
theorem overflowChoiceNeverSeenAtOutputs : Obligations.OverflowChoiceNeverSeenAtOutputs := by
  intro s o ws hv habove
  have hstart : DiffersInOverflow o s (s.onOverflow o s.elapsed) :=
    ⟨s.elapsed, rfl, fun hfire => ⟨rfl, not_lt.1 fun hlt => Bool.false_ne_true (hfire.symm.trans (habove hlt))⟩⟩
  obtain ⟨t, t', ht, ht', e, rfl, -⟩ := differsInOverflow_runTrace hstart hv ws
  exact ⟨t, _, ht, ht', rfl, rfl⟩

end Sys2Proof.Machine
end

section
/-! `FSM` arm by arm (R150 to R154), its selection (R79) and the graph of the device state (R155): past `Off` every
iteration is in `Running` at its end. -/

namespace Sys2Proof.Machine

/-! ### The arms by themselves -/

/-- Settles O15: each of the four states selects its arm, whose effect is written out in its definition. -/
theorem deviceArms : Obligations.DeviceArms := fun _ hv =>
  ⟨fun hd hq => State.completeArm_of_selected hv (by simp [hd, hq]) ..,
    fun hd hq => State.completeArm_of_selected hv (by simp [hd, hq]) ..,
    fun hd => State.completeArm_of_selected hv (by simp [hd]) ..,
    fun hd => State.completeArm_of_selected hv (by simp [hd]) ..⟩

/-! ### The selection of `FSM` -/

/-- The table of R79: the arm for `dev_state` and `p`, the predicate that the channel has committed. -/
def fsmArmOf (d : DevState) (p : Bool) : Instr :=
  match d with
  | .off => if p then .fsmArm else .fsmOff
  | .startRunning => .fsmSr
  | .running => .fsmRun

theorem decodeFsmArm_fsmWord (d : DevState) (p : Bool) : decodeFsmArm (fsmWord d p) = some (fsmArmOf d p) := by
  cases d <;> cases p <;> rfl

theorem decode_fsmSelector (s : State) :
    decode (fsmSelector s) = .ok (fsmArmOf s.devState (s.btnState == .pressed)) := by
  rw [fsmSelector, decode_fsmArm, decodeFsmArm_fsmWord]
  rfl

/-- The arm that the table gives for a state has there the effect of `FSM` (R150). -/
theorem exec_fsmArmOf {s : State} (hv : s.cfg.Valid) :
    exec (fsmArmOf s.devState (s.btnState == .pressed)) s = .next (fsm s) := by
  obtain ⟨harm, hoff, hstart, hrun⟩ := deviceArms s hv
  rcases fsm_cases s with ⟨hd, hq, h⟩ | ⟨hd, hq, h⟩ | ⟨hd, h⟩ | ⟨hd, h⟩ <;> rw [h]
  · rw [hd, hq]
    exact harm hd hq
  · rw [hd, beq_false_of_ne hq]
    exact hoff hd hq
  · rw [hd]
    exact hstart hd
  · rw [hd]
    exact hrun hd

/-- Settles O18: the selector word decodes to the arm of the table, which runs as `FSM`. -/
theorem fsmRunsItsSelectedArm : Obligations.FsmRunsItsSelectedArm :=
  fun s hv => ⟨_, decode_fsmSelector s, exec_fsmArmOf hv⟩

/-! ### The graph of the device state -/

/-- Past `Off` the channel is not looked at: `FSM` is `dev_state <- Running` (R153, R154). -/
theorem fsm_of_ne_off {s : State} (hd : s.devState ≠ .off) : fsm s = s.setDevState .running := by
  rcases fsm_cases s with ⟨hoff, -⟩ | ⟨hoff, -⟩ | ⟨-, h⟩ | ⟨hrun, h⟩
  · exact absurd hoff hd
  · exact absurd hoff hd
  · exact h
  · rw [h, ← hrun]
    rfl

theorem iteration_of_ne_off {s : State} (hd : s.devState ≠ .off) (b : Bool) :
    iteration b s = (tck (deb b s)).setDevState .running :=
  fsm_of_ne_off (by simpa using hd)

section
variable {i : Instr} {s t : State}

theorem devState_of_exec_iterates {b : Bool} (hi : i = .step b ∨ i = .stept b) (h : exec i s = .next t) :
    t.devState = (iteration b s).devState := by
  rcases hi with rfl | rfl <;> obtain ⟨-, rfl⟩ := (State.complete_eq_next ..).1 h <;> rfl

/-- In the order of their codes the device states are left for the next one only (R71, R155). -/
theorem Runs.devState_code (h : Runs s i t) (hr : i ≠ .reset) :
    s.devState.code.toNat ≤ t.devState.code.toNat ∧ t.devState.code.toNat ≤ s.devState.code.toNat + 1 := by
  rcases h.devState_cases hr with he | ⟨-, ⟨hs, ht⟩ | ⟨hs, ht⟩⟩
  · simp [he]
  · simp [hs, ht, DevState.code]
  · simp [hs, ht, DevState.code]

theorem Runs.devState_ne_off (h : Runs s i t) (hr : i ≠ .reset) (hd : s.devState ≠ .off) : t.devState ≠ .off := by
  rcases h.devState_cases hr with he | ⟨-, ⟨hs, -⟩ | ⟨-, ht⟩⟩
  · rwa [he]
  · exact absurd hs hd
  · simp [ht]

theorem Runs.fire_stays (h : Runs s i t) (hr : i ≠ .reset) (hfire : s.fire = true) : t.fire = true := by
  rcases h.outputs_cases hr with ⟨-, -, -, he⟩ | ⟨-, -, -, -, he | ht⟩
  · rwa [he]
  · rwa [he]
  · exact ht

end

/-- Settles O35: the column of `RESET` from its effect, the other instructions by the row of `dev_state`, an iteration by
its `FSM`. -/
theorem deviceStateOneWay : Obligations.DeviceStateOneWay := by
  intro i s t h
  refine ⟨?_, (runs_of_exec h).devState_code, fun b hi => ?_⟩
  · rintro rfl
    obtain ⟨-, rfl⟩ := (State.complete_eq_next ..).1 h
    rfl
  · rw [devState_of_exec_iterates hi h]
    refine ⟨fun hoff => ?_, fun hd => by rw [iteration_of_ne_off hd]; rfl⟩
    rcases iteration_devState_cases b s with he | ⟨-, he⟩ | ⟨hstart, -⟩
    · simp [he, hoff]
    · simp [he]
    · simp [hoff] at hstart

end Sys2Proof.Machine
end

section
/-! The button after arming (R157): past `Off` a clock edge, looked at without the channel, is a function of the state
without the channel and of `step_en` and `tick_set`, so neither the channel nor a sample reaches anything else. -/

namespace Sys2Proof.Machine

/-- The state with its channel forgotten: two states that differ in the channel alone have the same one. -/
def State.forgetChannel (s : State) : State := (s.setBtnState .unpressed).setBtnConf 0

@[simp] theorem State.forgetChannel_devState (s : State) : s.forgetChannel.devState = s.devState := rfl
@[simp] theorem State.forgetChannel_cfg (s : State) : s.forgetChannel.cfg = s.cfg := rfl

theorem forgetChannel_eq_iff {s s' : State} :
    s.forgetChannel = s'.forgetChannel ↔ s' = { s with btnState := s'.btnState, btnConf := s'.btnConf } := by
  constructor
  · intro h
    calc s' = (s'.forgetChannel.setBtnState s'.btnState).setBtnConf s'.btnConf := rfl
      _ = (s.forgetChannel.setBtnState s'.btnState).setBtnConf s'.btnConf := by rw [h]
  · intro h
    rw [h]
    rfl

/-! ### A clock edge without the channel -/

theorem forgetChannel_deb (b : Bool) (s : State) : (deb b s).forgetChannel = s.forgetChannel := by
  rw [deb_frame]
  rfl

theorem forgetChannel_tck (s : State) : (tck s).forgetChannel = tck s.forgetChannel := by
  rcases tck_cases s with ⟨hflag, hd, h⟩ | ⟨hdrop, h⟩
  · have h' := ((tck_cases s.forgetChannel).resolve_right fun hn => hn.1 ⟨hflag, hd⟩).2.2
    rw [h, h', tickWork_eq, tickWork_eq]
    rfl
  · have h' := ((tck_cases s.forgetChannel).resolve_left fun hn => hdrop ⟨hn.1, hn.2.1⟩).2
    rw [h, h']
    rfl

/-- The clock edge of an armed device without its channel: no sample goes in (R153, R154, R173). -/
def armedEdge (stepEn tickSet : Bool) (s : State) : State :=
  let s' := if stepEn then (tck s).setDevState .running else s
  if tickSet then s'.raiseTick else s'

theorem forgetChannel_iteration {s : State} (hd : s.devState ≠ .off) (b : Bool) :
    (iteration b s).forgetChannel = (tck s.forgetChannel).setDevState .running :=
  calc (iteration b s).forgetChannel
      = (tck (deb b s)).forgetChannel.setDevState .running := by rw [iteration_of_ne_off hd]; rfl
    _ = (tck s.forgetChannel).setDevState .running := by rw [forgetChannel_tck, forgetChannel_deb]

theorem forgetChannel_raiseTick (s : State) : s.raiseTick.forgetChannel = s.forgetChannel.raiseTick := rfl

theorem forgetChannel_wordEdge {s : State} {w : CmdWord} (hd : s.devState ≠ .off) (hrst : cmdRst w = false) :
    (wordEdge w s).forgetChannel = armedEdge (cmdStepEn w) (cmdTickSet w) s.forgetChannel := by
  have hiter := forgetChannel_iteration hd (cmdBtnRaw w)
  rw [wordEdge, clockEdge, armedEdge, hrst]
  cases cmdStepEn w <;> cases cmdTickSet w
  · rfl
  · rfl
  · exact hiter
  · exact (forgetChannel_raiseTick _).trans (congrArg State.raiseTick hiter)

/-! ### Two runs -/

theorem decodeCmd_ne_reset {w : CmdWord} (hrst : cmdRst w = false) : decodeCmd w ≠ .reset := by
  rw [decodeCmd, hrst]
  cases cmdStepEn w <;> cases cmdTickSet w <;> nofun

/-- Two runs from armed states that differ in the channel alone, over words that differ in the sample alone, end so;
on the way each clock edge keeps the device armed and a set `fire` set. -/
theorem runTrace_sameButSample {ws ws' : List CmdWord} (hws : List.Forall₂ SameButSample ws ws') {s s' : State}
    (hv : s.cfg.Valid) (hd : s.devState ≠ .off) (h : s.forgetChannel = s'.forgetChannel) :
    ∃ t t', runTrace ws s = .next t ∧ runTrace ws' s' = .next t' ∧ t.devState ≠ .off ∧
      (s.fire = true → t.fire = true) ∧ t.forgetChannel = t'.forgetChannel := by
  induction hws generalizing s s' with
  | nil => exact ⟨s, s', rfl, rfl, hd, id, h⟩
  | @cons w w' ws ws' hw _ ih =>
    obtain ⟨hrst, hrst', hstep, htick⟩ := hw
    have hv' : s'.cfg.Valid := by rwa [← s'.forgetChannel_cfg, ← h]
    have hd' : s'.devState ≠ .off := by rwa [← s'.forgetChannel_devState, ← h]
    have hrun : Runs s (decodeCmd w) (wordEdge w s) := runs_of_exec (exec_decodeCmd hv w)
    have hedge : (wordEdge w s).forgetChannel = (wordEdge w' s').forgetChannel := by
      rw [forgetChannel_wordEdge hd hrst, forgetChannel_wordEdge hd' hrst', hstep, htick, h]
    obtain ⟨t, t', ht, ht', hdt, hfire, hlast⟩ :=
      ih (valid_wordEdge hv w) (hrun.devState_ne_off (decodeCmd_ne_reset hrst) hd) hedge
    rw [runTrace_cons hv, runTrace_cons hv']
    exact ⟨t, t', ht, ht', hdt, fun hs => hfire (hrun.fire_stays (decodeCmd_ne_reset hrst) hs), hlast⟩

/-- Settles O50: states that differ in the channel alone are those that agree without it. -/
theorem buttonIgnoredAfterArming : Obligations.ButtonIgnoredAfterArming := by
  intro s s' ws ws' hv hd hchan hws
  obtain ⟨t, t', ht, ht', hdt, hfire, h⟩ := runTrace_sameButSample hws hv hd (forgetChannel_eq_iff.2 hchan)
  exact ⟨t, t', ht, ht', hdt, hfire, forgetChannel_eq_iff.1 h⟩

end Sys2Proof.Machine
end

section
/-! The clock edge (R173 to R176): the commands by the fields of the word, what a step keeps (R36 to R42), and the ports
that show the registers (R175). -/

namespace Sys2Proof.Machine

/-! ### The commands of a word -/

/-- Settles O2: both words have none of the three command bits, and the meaning of `NOP` ends in its own state. -/
theorem nopChangesNothing : Obligations.NopChangesNothing := fun s b hv =>
  ⟨by cases b <;> rfl, State.complete_of_valid hv s⟩

/-- The fields of a word are those it was made from (R74), so its edge is the one with those four inputs. -/
theorem wordEdge_cmdWord (rst stepEn tickSet btnRaw : Bool) :
    wordEdge (cmdWord rst stepEn tickSet btnRaw) = clockEdge rst stepEn tickSet btnRaw := by
  cases rst <;> cases stepEn <;> cases tickSet <;> cases btnRaw <;> rfl

/-- Settles O8: `clockEdge` is the pseudocode, with the iteration named. -/
theorem clockEdgeIsCyclePseudocode : Obligations.ClockEdgeIsCyclePseudocode := by
  intro rst stepEn tickSet btnRaw s hv
  rw [exec_decodeCmd hv, wordEdge_cmdWord]
  rfl

/-- Without `rst` the edge clears the flag by `step_en` and then sets it by `tick_set`: set wins over clear (R174). -/
theorem tickFlag_wordEdge {w : CmdWord} (hrst : cmdRst w = false) (s : State) :
    (wordEdge w s).tickFlag = (cmdTickSet w || (s.tickFlag && !cmdStepEn w)) := by
  rw [wordEdge, hrst]
  cases cmdStepEn w <;> cases cmdTickSet w <;> simp [clockEdge]

/-- Settles O6: `STEPT` raises the tick in the state that `STEP` ends in, and the flag is that of the word's edge. -/
theorem steptIsStepThenTick : Obligations.SteptIsStepThenTick := by
  intro s hv
  refine ⟨fun b => ?_, fun w hrst => ⟨wordEdge w s, exec_decodeCmd hv w, tickFlag_wordEdge hrst s⟩⟩
  have hvalid : (iteration b s).cfg.Valid := by rwa [iteration_cfg]
  exact ⟨iteration b s, exec_step_of_valid hv b, State.complete_of_valid hvalid _, State.complete_of_valid hv _⟩

/-! ### What a step keeps -/

/-- `FSM` consumes the press that it finds in `Off`, so it leaves none there (R42, R151). -/
theorem settled_fsm (s : State) : (fsm s).Settled := by
  rcases fsm_cases s with ⟨-, -, h⟩ | ⟨-, hq, h⟩ | ⟨-, h⟩ | ⟨hrun, h⟩ <;> rw [h]
  · exact nofun
  · exact fun _ => hq
  · exact nofun
  · exact fun hoff => absurd (hoff.symm.trans hrun) nofun

/-- A word's edge leaves the reset channel, or what its iteration leaves, or the channel it found. -/
theorem settled_wordEdge {s : State} (h : s.Settled) (w : CmdWord) : (wordEdge w s).Settled := by
  have hiter : (iteration (cmdBtnRaw w) s).Settled := settled_fsm _
  rw [wordEdge]
  cases cmdRst w with
  | true => exact nofun
  | false =>
    cases cmdStepEn w <;> cases cmdTickSet w
    · exact h
    · exact h
    · exact hiter
    · exact hiter

/-- Reading the ports moves no element of the block: no invariant speaks of `trace` or `draws`. -/
theorem readPorts_keeps_invariants {s : State} (hinv : s.Inv) (hset : s.Settled) :
    s.readPorts.2.Inv ∧ s.readPorts.2.Settled := by
  rcases readPorts_cases s with ⟨_, _, -, h⟩ | ⟨-, h⟩ <;> rw [h] <;> exact ⟨hinv, hset⟩

theorem step_eq_exec_readPorts (s : State) : step s = exec (decodeCmd s.readPorts.1) s.readPorts.2 := rfl

/-- Settles O32: a step is the edge of the word that the ports give; every instruction keeps the invariants, every edge
`Settled`. -/
theorem stepKeepsInvariants : Obligations.StepKeepsInvariants := by
  intro s t hinv hset hstep
  rw [step_eq_exec_readPorts] at hstep
  obtain ⟨hinv', hset'⟩ := readPorts_keeps_invariants hinv hset
  refine ⟨everyInstructionKeepsInvariants _ _ _ hinv' hstep, ?_⟩
  obtain ⟨hv, -⟩ := hinv'
  rw [exec_decodeCmd hv] at hstep
  cases hstep
  exact settled_wordEdge hset' _

/-! ### The ports -/

theorem debounceThreshold_lt_two_pow_confWidth (c : Config) : c.debounceThreshold < 2 ^ c.confWidth :=
  Nat.lt_log2_self

/-- `W_CONF` is the least width that holds a positive `T` (R8). -/
theorem confWidth_le {c : Config} (hT : 1 ≤ c.debounceThreshold) {w : Nat} (hw : c.debounceThreshold ≤ 2 ^ w - 1) :
    c.confWidth ≤ w := by
  have hlt : c.debounceThreshold < 2 ^ w := hw.trans_lt (Nat.sub_lt (Nat.two_pow_pos w) Nat.one_pos)
  exact (Nat.log2_lt (Nat.one_le_iff_ne_zero.1 hT)).2 hlt

/-- `btn_conf_o` loses nothing where the count is at most `T` (R54). -/
theorem toNat_btnConfPort {s : State} (hbound : ConfBounded s) : (btnConfPort s).toNat = s.btnConf := by
  rw [btnConfPort, BitVec.toNat_ofNat]
  exact Nat.mod_eq_of_lt (hbound.trans_lt (debounceThreshold_lt_two_pow_confWidth s.cfg))

theorem BtnState.ofCode_code (q : BtnState) : BtnState.ofCode q.code = q := by cases q <;> rfl

theorem DevState.ofCode_code (d : DevState) : DevState.ofCode d.code = some d := by cases d <;> rfl

/-- Settles O52: the codes are read back, the count fits its port, and the other ports are the registers. -/
theorem portsCarryRegisters : Obligations.PortsCarryRegisters := by
  rintro s ⟨hv, hbound, -⟩
  exact ⟨toNat_btnConfPort hbound, BtnState.ofCode_code _, DevState.ofCode_code _, rfl, rfl, rfl,
    Nat.le_sub_one_of_lt (debounceThreshold_lt_two_pow_confWidth s.cfg), fun _ => confWidth_le hv.1⟩

end Sys2Proof.Machine
end

section
/-! The main-loop iteration (R170): its three arms, the next value of every element, and the two iterations from the
commit to `Running` (R171, R179). -/

namespace Sys2Proof.Machine

/-- Settles O19: each micro-operation runs its selected arm, on a build that the one before it left as it was. -/
theorem stepIsThreeSelectedArms : Obligations.StepIsThreeSelectedArms := by
  intro b s hv
  obtain ⟨a1, hsel1, hexec1⟩ := debRunsItsSelectedArm b s hv
  obtain ⟨a2, hsel2, hexec2⟩ := tckRunsItsSelectedArm (deb b s) (by rwa [deb_cfg])
  obtain ⟨a3, hsel3, hexec3⟩ := fsmRunsItsSelectedArm (tck (deb b s)) (by rwa [tck_cfg, deb_cfg])
  exact ⟨a1, a2, a3, _, _, _, hsel1, hexec1, hsel2, hexec2, hsel3, hexec3, exec_step_of_valid hv b⟩

/-! ### The next value of each element -/

/-- Two states with the same elements, the same build and the same announced words are the same. -/
@[ext] theorem State.ext_elements {s t : State} (btnState : s.btnState = t.btnState) (btnConf : s.btnConf = t.btnConf)
    (devState : s.devState = t.devState) (tickFlag : s.tickFlag = t.tickFlag) (elapsed : s.elapsed = t.elapsed)
    (buzzer : s.buzzer = t.buzzer) (led : s.led = t.led) (fire : s.fire = t.fire) (cfg : s.cfg = t.cfg)
    (trace : s.trace = t.trace) (draws : s.draws = t.draws) : s = t := by
  cases s
  cases t
  simp_all

theorem incTicks_eq (o : Overflow) (e : TickCount) :
    incTicks o e = if e.toNat < 2 ^ 32 - 1 then e + 1 else if o = .saturate then e else 0 := by
  cases o <;> rfl

theorem toNat_incTicks (o : Overflow) (e : TickCount) :
    (incTicks o e).toNat = if e.toNat < 2 ^ 32 - 1 then e.toNat + 1 else if o = .saturate then e.toNat else 0 := by
  split
  case isTrue h => exact incTicks_of_lt o e h
  case isFalse h =>
    rw [incTicks_of_top o e h]
    cases o <;> rfl

/-- `TCK` as a table: the flag is always cleared, the other elements move on a tick pending in `Running` (R131). -/
theorem tck_eq (s : State) :
    tck s = { s with
      tickFlag := false
      elapsed := if s.tickFlag = true ∧ s.devState = .running then incTicks s.cfg.overflow s.elapsed else s.elapsed
      buzzer := if s.tickFlag = true ∧ s.devState = .running then !s.buzzer else s.buzzer
      led := if s.tickFlag = true ∧ s.devState = .running then !s.led else s.led
      fire :=
        if s.tickFlag = true ∧ s.devState = .running then
          if s.cfg.cutdownTicks < (incTicks s.cfg.overflow s.elapsed).toNat then true else s.fire
        else s.fire } := by
  rcases tck_cases s with ⟨hflag, hd, h⟩ | ⟨hdrop, h⟩ <;> rw [h]
  · have hcount : s.tickFlag = true ∧ s.devState = .running := ⟨hflag, hd⟩
    simp only [tickWork_eq, if_pos hcount]
    rfl
  · simp only [if_neg hdrop]
    rfl

/-- `FSM` consumes a press in `Off` and leaves every other channel (R150). -/
theorem fsm_btnState (s : State) :
    (fsm s).btnState = if s.devState = .off ∧ s.btnState = .pressed then .unpressed else s.btnState := by
  rcases fsm_cases s with ⟨hd, hq, h⟩ | ⟨-, hq, h⟩ | ⟨hd, h⟩ | ⟨hd, h⟩ <;> rw [h]
  · simp [hd, hq, fsmArm]
  · simp [hq]
  · simp [hd, fsmSr]
  · simp [hd]

/-- `Off` is left on a committed press only, and every other state for `Running` (R150). -/
theorem fsm_devState (s : State) :
    (fsm s).devState =
      if s.devState = .off then if s.btnState = .pressed then .startRunning else .off else .running := by
  rcases fsm_cases s with ⟨hd, hq, h⟩ | ⟨hd, hq, h⟩ | ⟨hd, h⟩ | ⟨hd, h⟩ <;> rw [h]
  · simp [hd, hq, fsmArm]
  · simp [hd, hq]
  · simp [hd, fsmSr]
  · simp [hd]

section
variable (b : Bool) (s : State)

@[simp] theorem iteration_btnConf : (iteration b s).btnConf = (deb b s).btnConf := by simp [iteration]
@[simp] theorem iteration_trace : (iteration b s).trace = s.trace := by simp [iteration]
@[simp] theorem iteration_draws : (iteration b s).draws = s.draws := by simp [iteration]

/-- A commit in `Off` is consumed at once (R171). -/
theorem iteration_btnState :
    (iteration b s).btnState =
      if s.devState = .off ∧ (deb b s).btnState = .pressed then .unpressed else (deb b s).btnState := by
  rw [iteration, fsm_btnState, tck_devState, tck_btnState, deb_devState]

/-- Only a commit takes the device out of `Off`; past it every iteration ends in `Running` (R155, R171). -/
theorem iteration_devState :
    (iteration b s).devState =
      if s.devState = .off then if (deb b s).btnState = .pressed then .startRunning else .off else .running := by
  rw [iteration, fsm_devState, tck_devState, tck_btnState, deb_devState]

/-- The channel is committed after `DEB` if it was before, or by the sample that fills the release (R108, R109). -/
theorem deb_btnState_eq_pressed_iff :
    (deb b s).btnState = .pressed ↔
      s.btnState = .pressed ∨
        (s.btnState = .releasePending ∧ b = false ∧ s.cfg.debounceThreshold ≤ s.btnConf + 1) := by
  rcases deb_cases b s with
    ⟨hq, -, h⟩ | ⟨hq, -, h⟩ | ⟨hq, -, h⟩ | ⟨hq, -, -, h⟩ | ⟨hq, -, -, h⟩ | ⟨hq, hb, h⟩ | ⟨hq, -, hlt, h⟩ |
      ⟨hq, hb, hle, h⟩ | ⟨hq, h⟩ <;> rw [h]
  · simp [debUp, hq]
  · simp [hq]
  · simp [debPp, hq]
  · simp [debPrc, hq]
  · simp [debPrb, hq]
  · simp [debRp, hq, hb]
  · simp [debRrn, hq, hlt]
  · simp [debRrc, hq, hb, hle]
  · simp [hq]

end

/-- Settles O5: the channel by the nine rows of `DEB`, the device by what commits, the rest by the table of `TCK`. -/
theorem iterationNextState : Obligations.IterationNextState := by
  intro b s hv
  rw [exec_step_of_valid hv]
  congr 1
  ext1
  case btnState | btnConf =>
    simp only [iteration_btnState, iteration_btnConf]
    rcases deb_cases b s with
      ⟨hq, hb, h⟩ | ⟨hq, hb, h⟩ | ⟨hq, hb, h⟩ | ⟨hq, hb, hc, h⟩ | ⟨hq, hb, hc, h⟩ | ⟨hq, hb, h⟩ | ⟨hq, hb, hc, h⟩ |
        ⟨hq, hb, hc, h⟩ | ⟨hq, h⟩ <;> rw [h]
    · simp [hq, hb, debUp]
    · simp [hq, hb]
    · simp [hq, hb, debPp, nextConf]
    · simp [hq, hb, hc, debPrc]
    · simp [hq, hb, hc, debPrb]
    · simp [hq, hb, debRp]
    · simp [hq, hb, hc, debRrn]
    · simp [hq, hb, hc.not_gt, debRrc]
    · simp [hq]
  case devState =>
    rw [iteration_devState]
    simp only [deb_btnState_eq_pressed_iff]
    cases s.devState <;> rfl
  case elapsed => simp [tck_eq, incTicks_eq]
  case buzzer | led => simp [tck_eq]
  case fire =>
    simp only [iteration_fire, tck_eq, deb_tickFlag, deb_devState, deb_cfg, deb_elapsed, deb_fire, toNat_incTicks,
      ite_and]
  case tickFlag | cfg | trace | draws => simp

/-! ### From the commit to `Running` -/

/-- Before `Running` an iteration drops a pending tick: nothing is counted and no output moves (R134, R135). -/
theorem iteration_quiet {s : State} (hd : s.devState ≠ .running) (b : Bool) :
    (iteration b s).elapsed = s.elapsed ∧ outputs (iteration b s) = outputs s := by
  simp [outputs, tck_eq, hd]

theorem exec_tickOrNop {s : State} (hv : s.cfg.Valid) (hflag : s.tickFlag = false) (tick : Bool) :
    exec (if tick then .tick else .nop) s = .next (s.setTickFlag tick) := by
  cases tick with
  | true => exact State.complete_of_valid hv _
  | false =>
    calc exec .nop s = .next (s.setTickFlag s.tickFlag) := State.complete_of_valid hv _
      _ = .next (s.setTickFlag false) := by rw [hflag]

/-- Settles O46: the commit arms and consumes; whether a tick comes after it or not, the device is past `Off` and not
yet in `Running`, so the next iteration reaches it, and both iterations are quiet. -/
theorem commitToRunningTakesTwoIterations : Obligations.CommitToRunningTakesTwoIterations := by
  intro s between b hv hoff hq hle
  have hcommit : (deb false s).btnState = .pressed := (deb_btnState_eq_pressed_iff false s).2 (.inr ⟨hq, rfl, hle⟩)
  set s1 := iteration false s with hs1
  set s2 := s1.setTickFlag between
  have hd1 : s1.devState = .startRunning := by rw [hs1, iteration_devState, if_pos hoff, if_pos hcommit]
  have hq1 : s1.btnState = .unpressed := by rw [hs1, iteration_btnState, if_pos ⟨hoff, hcommit⟩]
  have hv1 : s1.cfg.Valid := by rwa [hs1, iteration_cfg]
  have hd2 : s2.devState = .startRunning := hd1
  have hbetween : exec (if between then .tick else .nop) s1 = .next s2 :=
    exec_tickOrNop hv1 (iteration_tickFlag false s) between
  have hd3 : (iteration b s2).devState = .running := by
    rw [iteration_of_ne_off (by simp [hd2])]
    rfl
  obtain ⟨helapsed1, hout1⟩ : s1.elapsed = s.elapsed ∧ outputs s1 = outputs s :=
    iteration_quiet (by simp [hoff]) false
  obtain ⟨helapsed3, hout3⟩ := iteration_quiet (s := s2) (by simp [hd2]) b
  exact ⟨s1, s2, iteration b s2, exec_step_of_valid hv false, hd1, hq1, hbetween, rfl,
    exec_step_of_valid (s := s2) hv1 b, hd3, iteration_tickFlag b s2, helapsed3.trans helapsed1, hout3.trans hout1⟩

end Sys2Proof.Machine
end

section
/-! No step faults or is refused (R16, R190): reading the ports keeps the build, and every word has its clock edge. -/

namespace Sys2Proof.Machine

/-- Reading the ports uses up a word or a draw, no element of the build (R27). -/
@[simp] theorem readPorts_cfg (s : State) : s.readPorts.2.cfg = s.cfg := by
  rcases readPorts_cases s with ⟨_, _, -, h⟩ | ⟨-, h⟩ <;> rw [h]

/-- On a legal build a step is the clock edge of the word that the ports give, announced or free. -/
theorem step_eq_wordEdge {s : State} (hv : s.cfg.Valid) : step s = .next (wordEdge s.readPorts.1 s.readPorts.2) := by
  have hports : s.readPorts.2.cfg.Valid := by rwa [readPorts_cfg]
  rw [step_eq_exec_readPorts, exec_decodeCmd hports]

/-- A clock edge writes the block, never the build (R27). -/
@[simp] theorem wordEdge_cfg (w : CmdWord) (s : State) : (wordEdge w s).cfg = s.cfg := by
  rw [wordEdge]
  cases cmdRst w with
  | true => rfl
  | false => cases cmdStepEn w <;> cases cmdTickSet w <;> simp [clockEdge]

/-- Settles O27: the next state is the edge of the word on the ports, which keeps the build. -/
theorem stepAlwaysCompletes : Obligations.StepAlwaysCompletes := by
  intro s hv
  refine ⟨wordEdge s.readPorts.1 s.readPorts.2, step_eq_wordEdge hv, ?_⟩
  rw [wordEdge_cfg, readPorts_cfg]

end Sys2Proof.Machine
end

section
/-! Reset (R35, R220, R221): the values it writes, the words that run it, and what no other instruction can do: clear
`fire`, leave `Running` or, on a build that saturates, lower the count (R44). -/

namespace Sys2Proof.Machine

/-! ### The effect and the words of `RESET` -/

/-- Settles O1: on a legal build the meaning of `RESET` ends in its effect, whose writers give these eight values. -/
theorem resetWritesAllEight : Obligations.ResetWritesAllEight := fun s hv =>
  State.complete_of_valid hv s.resetBlock

/-- `rst` alone selects `RESET`: its row of R75 is `1xxx`. -/
theorem decodeCmd_cmdWord_rst (stepEn tickSet btnRaw : Bool) :
    decodeCmd (cmdWord true stepEn tickSet btnRaw) = .reset := by
  cases stepEn <;> cases tickSet <;> cases btnRaw <;> rfl

/-- Settles O7: each of the eight words decodes to `RESET`, so no iteration runs and no tick is recorded. -/
theorem resetWinsOverOtherInputs : Obligations.ResetWinsOverOtherInputs := by
  intro stepEn tickSet btnRaw s hv
  rw [decodeCmd_cmdWord_rst]
  exact resetWritesAllEight s hv

/-! ### What only `RESET` undoes -/

section
variable {i : Instr} {s t : State}

/-- `Running` is absorbing: the device state is written in `Off` and in `StartRunning` only (R154, R155). -/
theorem Runs.running_stays (h : Runs s i t) (hr : i ≠ .reset) (hrun : s.devState = .running) :
    t.devState = .running := by
  rcases h.devState_cases hr with he | ⟨-, ⟨hs, -⟩ | ⟨hs, -⟩⟩
  · rwa [he]
  · simp [hrun] at hs
  · simp [hrun] at hs

/-- On a build that saturates the count is kept or counted up, and at its top it stays (R26, R137). -/
theorem Runs.elapsed_le_of_saturate (h : Runs s i t) (hr : i ≠ .reset) (hsat : s.cfg.overflow = .saturate) :
    s.elapsed.toNat ≤ t.elapsed.toNat := by
  rcases h.outputs_cases hr with ⟨he, -⟩ | ⟨-, he, -⟩
  · rw [he]
  · rw [he, hsat]
    exact le_incTicks_saturate s.elapsed

end

/-- Settles O36: the rows of `fire`, of `dev_state` and of `elapsed`, each read for its own direction. -/
theorem onlyResetGoesBack : Obligations.OnlyResetGoesBack := by
  intro i s t h hr
  have hrun : Runs s i t := runs_of_exec h
  exact ⟨hrun.fire_stays hr, hrun.running_stays hr, hrun.elapsed_le_of_saturate hr⟩

end Sys2Proof.Machine
end

section
/-! The order of the channel (R115), the shortest commit (R111) and the earliest `Running` (R241): a measure of the
channel, then of the block, that one sample or one iteration raises by at most one. -/

namespace Sys2Proof.Machine

/-! ### The order of the channel -/

/-- Settles O43: six arms of `DEB` stay in their state, the other three go on to the next one. -/
theorem channelNeverSkipsOrGoesBack : Obligations.ChannelNeverSkipsOrGoesBack := by
  intro b s
  rcases deb_cases b s with
    ⟨hq, -, hd⟩ | ⟨-, -, hd⟩ | ⟨-, -, hd⟩ | ⟨hq, -, -, hd⟩ | ⟨-, -, -, hd⟩ | ⟨-, -, hd⟩ | ⟨-, -, -, hd⟩ |
      ⟨hq, -, -, hd⟩ | ⟨-, hd⟩ <;> rw [hd]
  · exact .inr (by rw [hq]; rfl)
  · exact .inl rfl
  · exact .inl rfl
  · exact .inr (by rw [hq]; rfl)
  · exact .inl rfl
  · exact .inl rfl
  · exact .inl rfl
  · exact .inr (by rw [hq]; rfl)
  · exact .inl rfl

/-! ### The samples behind the channel -/

/-- How many samples the channel in `s` has behind it since `Unpressed`, at least: the sample that enters a pending
state is not counted in its confidence (R101, R104). -/
def channelProgress (s : State) : Nat :=
  match s.btnState with
  | .unpressed => 0
  | .pressPending => s.btnConf + 1
  | .releasePending => s.cfg.debounceThreshold + 2 + s.btnConf
  | .pressed => 2 * s.cfg.debounceThreshold + 2

/-- Each arm of `DEB` counts its sample or falls back; the two that enter the next pending state do so from a full
count. -/
theorem channelProgress_deb (b : Bool) (s : State) : channelProgress (deb b s) ≤ channelProgress s + 1 := by
  rcases deb_cases b s with
    ⟨hq, -, hd⟩ | ⟨-, -, hd⟩ | ⟨hq, -, hd⟩ | ⟨hq, -, hfull, hd⟩ | ⟨hq, -, -, hd⟩ | ⟨hq, -, hd⟩ | ⟨hq, -, -, hd⟩ |
      ⟨hq, -, hfills, hd⟩ | ⟨-, hd⟩ <;> rw [hd]
  · simp [channelProgress, debUp]
  · exact Nat.le_succ _
  · simp [channelProgress, debPp, nextConf, hq]
  · simp [channelProgress, debPrc, hq, hfull]
  · simp [channelProgress, debPrb, hq]
  · simp only [channelProgress, debRp, hq, State.setBtnConf_btnState, State.setBtnConf_btnConf, State.setBtnConf_cfg]
    omega
  · simp [channelProgress, debRrn, hq, Nat.add_assoc]
  · simp only [channelProgress, debRrc, hq, State.setBtnConf_btnState, State.setBtnState_btnState,
      State.setBtnConf_cfg, State.setBtnState_cfg]
    omega
  · exact Nat.le_succ _

theorem channelProgress_debRun (bs : List Bool) (s : State) :
    channelProgress (debRun bs s) ≤ channelProgress s + bs.length := by
  induction bs generalizing s with
  | nil => exact Nat.le_refl _
  | cons b bs ih =>
    calc channelProgress (debRun bs (deb b s))
        ≤ channelProgress (deb b s) + bs.length := ih (deb b s)
      _ ≤ channelProgress s + 1 + bs.length := Nat.add_le_add_right (channelProgress_deb b s) _
      _ = channelProgress s + (b :: bs).length := by rw [List.length_cons]; omega

/-- Settles O40: no sample raises the measure by more than one, from 0 to `2T + 2`; the two runs are those of R111 (b)
and (e). -/
theorem shortestCommit : Obligations.ShortestCommit := by
  intro s hv hq
  constructor
  · intro bs hcommit
    have hbound := channelProgress_debRun bs s
    simpa [channelProgress, hq, hcommit] using hbound
  · set t := (s.setBtnState .pressPending).setBtnConf s.cfg.debounceThreshold
    obtain ⟨-, -, -, -, hrelease, -, -⟩ := sampleRunLaws t (s.cfg.debounceThreshold + 1) hv
    have hfills : ¬ s.cfg.debounceThreshold + 1 ≤ t.cfg.debounceThreshold := Nat.not_succ_le_self _
    rw [debRun_append, debRun_press_of_unpressed hq, hrelease rfl rfl (Nat.le_add_left ..), if_neg hfills]

/-! ### The iterations behind the block -/

/-- How many iterations the block in `s` has behind it since reset, at least: a commit arms in its own iteration, the
next one ends in `Running` (R171). -/
def armProgress (s : State) : Nat :=
  match s.devState with
  | .off => channelProgress s
  | .startRunning => 2 * s.cfg.debounceThreshold + 2
  | .running => 2 * s.cfg.debounceThreshold + 3

theorem armProgress_of_off {s : State} (hoff : s.devState = .off) : armProgress s = channelProgress s := by
  rw [armProgress, hoff]

theorem le_armProgress_of_ne_off {s : State} (hd : s.devState ≠ .off) :
    2 * s.cfg.debounceThreshold + 2 ≤ armProgress s := by
  unfold armProgress
  cases h : s.devState with
  | off => exact absurd h hd
  | startRunning => exact Nat.le_refl _
  | running => exact Nat.le_succ _

/-- In `Off` an iteration has the progress of its `DEB`: the commit that `FSM.ARM` consumes goes on as
`StartRunning`. -/
theorem armProgress_iteration_of_off {s : State} (hoff : s.devState = .off) (b : Bool) :
    armProgress (iteration b s) = channelProgress (deb b s) := by
  by_cases hp : (deb b s).btnState = .pressed
  · simp [armProgress, channelProgress, iteration_devState, hoff, hp]
  · simp [armProgress, channelProgress, iteration_devState, iteration_btnState, hoff, hp]

theorem armProgress_iteration (b : Bool) (s : State) : armProgress (iteration b s) ≤ armProgress s + 1 := by
  by_cases hoff : s.devState = .off
  · rw [armProgress_iteration_of_off hoff, armProgress_of_off hoff]
    exact channelProgress_deb b s
  · have hrunning : armProgress (iteration b s) = 2 * s.cfg.debounceThreshold + 3 := by
      simp [armProgress, iteration_devState, hoff]
    exact hrunning.trans_le (Nat.succ_le_succ (le_armProgress_of_ne_off hoff))

/-- Only an iteration makes progress: `RESET` loses it, a tick moves neither the channel nor the device state. -/
theorem armProgress_wordEdge (w : CmdWord) (s : State) :
    armProgress (wordEdge w s) ≤ armProgress s + (wordIterates w).toNat := by
  have hiter := armProgress_iteration (cmdBtnRaw w) s
  rw [wordEdge, clockEdge, wordIterates]
  cases cmdRst w with
  | true => exact Nat.zero_le _
  | false =>
    cases cmdStepEn w <;> cases cmdTickSet w
    · exact Nat.le_refl _
    · exact Nat.le_refl _
    · exact hiter
    · exact hiter

theorem iterations_cons (w : CmdWord) (ws : List CmdWord) :
    iterations (w :: ws) = (wordIterates w).toNat + iterations ws := by
  rw [iterations, iterations, List.countP_cons, Nat.add_comm]
  cases wordIterates w <;> rfl

theorem armProgress_runTrace {ws : List CmdWord} {s t : State} (hv : s.cfg.Valid) (hrun : runTrace ws s = .next t) :
    armProgress t ≤ armProgress s + iterations ws := by
  induction ws generalizing s with
  | nil =>
    cases hrun
    exact Nat.le_refl _
  | cons w ws ih =>
    rw [runTrace_cons hv] at hrun
    rw [iterations_cons, ← Nat.add_assoc]
    exact (ih (valid_wordEdge hv w) hrun).trans (Nat.add_le_add_right (armProgress_wordEdge w s) _)

/-- Settles O45: the reset state has made no progress, `Running` has made `2T + 3`, and an edge adds at most its
iteration. -/
theorem earliestRunning : Obligations.EarliestRunning := by
  intro s t ws hv hrun hrunning
  have hcfg : t.cfg = s.cfg := runTrace_cfg (s := s.resetBlock) hv hrun
  have hbound : armProgress t ≤ 0 + iterations ws := armProgress_runTrace (s := s.resetBlock) hv hrun
  simpa [armProgress, hrunning, hcfg] using hbound

end Sys2Proof.Machine
end

section
/-! What an instruction answers on any build: a command ends as `State.complete`, an arm by itself as
`State.completeArm` under its own name, selected where some selector word selects it (log entries 3 and 6). -/

namespace Sys2Proof.Machine

/-! ### Commands and arms -/

/-- A command is selected by its word alone, so only the build can refuse it (R74, R224). -/
theorem exec_of_command {i : Instr} (hcmd : commandWord i ≠ none) (s : State) : ∃ t, exec i s = s.complete t := by
  cases i with
  | reset | nop | tick | step b | stept b => exact ⟨_, rfl⟩
  | debUp | debUr | debPp | debPrc | debPrb | debRp | debRrn | debRrc | debL | tckN | tckO | tckS | tckR | fsmOff
  | fsmArm | fsmSr | fsmRun => exact absurd rfl hcmd

theorem commandWord_decodeCmd_ne_none : ∀ w : CmdWord, commandWord (decodeCmd w) ≠ none := by decide

/-- The state selects the arm for `DEB` of some sample, for `TCK` or for `FSM`: the tables of R77 to R79. -/
def SelectsArm (s : State) (i : Instr) : Prop :=
  (∃ b, debArmOf s.btnState b (confFull s) (confFills s) = i) ∨ tckArmOf s.tickFlag s.devState = i ∨
    fsmArmOf s.devState (s.btnState == .pressed) = i

theorem selectsArm_iff_decode (s : State) (i : Instr) :
    SelectsArm s i ↔
      (∃ b : Bool, decode (debSelector b s) = .ok i) ∨ decode (tckSelector s) = .ok i ∨
        decode (fsmSelector s) = .ok i := by
  simp only [SelectsArm, decode_debSelector, decode_tckSelector, decode_fsmSelector, Except.ok.injEq]

/-- A selected arm runs: its effect there is that of its micro-operation (R100, R131, R150). -/
theorem exec_of_selectsArm {i : Instr} {s : State} (hv : s.cfg.Valid) (h : SelectsArm s i) :
    ∃ t, exec i s = .next t := by
  rcases h with ⟨b, rfl⟩ | rfl | rfl
  · exact ⟨deb b s, exec_debArmOf hv b⟩
  · exact ⟨tck s, exec_tckArmOf hv⟩
  · exact ⟨fsm s, exec_fsmArmOf hv⟩

/-- Every arm answers by its own name, on a selection that only the states of its row meet. -/
theorem exec_of_arm {i : Instr} (harm : commandWord i = none) (s : State) :
    ∃ sel t, exec i s = s.completeArm (opcodeRow i).mnemonic sel t ∧ (sel = true → SelectsArm s i) := by
  cases i with
  | reset | nop | tick | step b | stept b => exact nomatch harm
  | debUp | debPp | debRp => exact ⟨_, _, rfl, fun hsel => .inl ⟨true, by simp_all [debArmOf]⟩⟩
  | debUr | debPrc | debPrb | debRrn | debRrc | debL =>
    exact ⟨_, _, rfl, fun hsel => .inl ⟨false, by simp_all [debArmOf]⟩⟩
  | tckN | tckO | tckS | tckR => exact ⟨_, _, rfl, fun hsel => .inr (.inl (by simp_all [tckArmOf]))⟩
  | fsmOff | fsmArm | fsmSr | fsmRun => exact ⟨_, _, rfl, fun hsel => .inr (.inr (by simp_all [fsmArmOf]))⟩

/-- Settles O20: an arm that completes was selected, a selected one runs as its micro-operation, and one that is not
selected is refused by its name. -/
theorem armRunsOnlyWhereSelected : Obligations.ArmRunsOnlyWhereSelected := by
  intro i s hv harm
  obtain ⟨sel, u, hexec, hsel⟩ := exec_of_arm harm s
  rw [← selectsArm_iff_decode]
  refine ⟨⟨fun ⟨t, ht⟩ => ?_, exec_of_selectsArm hv⟩, fun hstuck => ?_⟩
  · obtain ⟨hselected, -⟩ := (State.completeArm_eq_next ..).1 (hexec.symm.trans ht)
    exact hsel hselected
  · cases sel with
    | true => exact absurd ⟨u, hexec.trans (State.completeArm_of_selected hv rfl ..)⟩ hstuck
    | false => exact hexec

/-! ### Builds outside the legal ranges -/

/-- Whatever completes does so on a legal build (R224). -/
theorem valid_of_exec {i : Instr} {s t : State} (h : exec i s = .next t) : s.cfg.Valid := by
  by_cases harm : commandWord i = none
  · obtain ⟨sel, u, hexec, -⟩ := exec_of_arm harm s
    obtain ⟨-, hv, -⟩ := (State.completeArm_eq_next ..).1 (hexec.symm.trans h)
    exact hv
  · obtain ⟨u, hexec⟩ := exec_of_command harm s
    obtain ⟨hv, -⟩ := (State.complete_eq_next ..).1 (hexec.symm.trans h)
    exact hv

theorem exec_decodeCmd_of_not_valid {s : State} (hv : ¬ s.cfg.Valid) (w : CmdWord) :
    exec (decodeCmd w) s = .refused .buildOutOfRange := by
  obtain ⟨t, hexec⟩ := exec_of_command (commandWord_decodeCmd_ne_none w) s
  rw [hexec, State.complete, if_neg hv]

/-- Settles O29: completing would make the build legal, and a command has no other ground of refusal. -/
theorem buildOutOfRangeRefused : Obligations.BuildOutOfRangeRefused := fun _ hv =>
  ⟨fun _ _ h => hv (valid_of_exec h), exec_decodeCmd_of_not_valid hv⟩

end Sys2Proof.Machine
end

section
/-! The announced words (R82, R173; log entry 2): a clock edge does not look at them, so a step that uses up the first
of them is that word's edge, and a run of steps is the run over the trace. -/

namespace Sys2Proof.Machine

/-- The state with other words announced. -/
def State.withTrace (ws : List CmdWord) (s : State) : State := { s with trace := ws }

/-! ### A clock edge does not look at the announced words -/

section
variable {s : State} (hv : s.cfg.Valid) (ws : List CmdWord)
include hv

/-- No row of the table of an iteration's next state speaks of `trace`. -/
theorem iteration_withTrace (b : Bool) : iteration b (s.withTrace ws) = (iteration b s).withTrace ws := by
  have hnext := iterationNextState b s hv
  have hnext' := iterationNextState b (s.withTrace ws) hv
  rw [exec_step_of_valid (s := s.withTrace ws) hv] at hnext'
  rw [exec_step_of_valid hv] at hnext
  rw [Host.Outcome.next.inj hnext, Host.Outcome.next.inj hnext']
  rfl

theorem wordEdge_withTrace (w : CmdWord) : wordEdge w (s.withTrace ws) = (wordEdge w s).withTrace ws := by
  rw [wordEdge, wordEdge, clockEdge, clockEdge, iteration_withTrace hv]
  cases cmdRst w with
  | true => rfl
  | false => cases cmdStepEn w <;> cases cmdTickSet w <;> rfl

theorem exec_decodeCmd_withTrace (w : CmdWord) :
    exec (decodeCmd w) (s.withTrace ws) = .next ((wordEdge w s).withTrace ws) := by
  rw [exec_decodeCmd (s := s.withTrace ws) hv, wordEdge_withTrace hv]

end

/-! ### Steps over announced words -/

theorem step_withTrace_cons (w : CmdWord) (ws : List CmdWord) (s : State) :
    step (s.withTrace (w :: ws)) = exec (decodeCmd w) (s.withTrace ws) := by
  have hports : (s.withTrace (w :: ws)).readPorts = (w, s.withTrace ws) := rfl
  rw [step_eq_exec_readPorts, hports]

/-- Settles O26: the ports give the first announced word, or a free one where none is left. -/
theorem stepRunsDecodedCommand : Obligations.StepRunsDecodedCommand := by
  constructor
  · intro s w ws h
    have hports : s.readPorts = (w, { s with trace := ws }) := by simp [State.readPorts, h]
    rw [step_eq_exec_readPorts, hports]
  · intro s h
    have hports : s.readPorts = (Config.envWord s.draws, { s with draws := s.draws + 1 }) := by
      simp [State.readPorts, h]
    rw [step_eq_exec_readPorts, hports]

theorem run_succ_of_next {M : Host.Core} {s t : M.State} (h : M.step s = .next t) (k : Nat) :
    M.run (k + 1) s = M.run k t := by
  rw [Host.Core.run, h]

theorem run_succ_of_refused {M : Host.Core} {s : M.State} {r : M.Refusal} (h : M.step s = .refused r) (k : Nat) :
    M.run (k + 1) s = .refused r := by
  rw [Host.Core.run, h]

/-- Settles O28: by induction on the words; the first step and the first edge answer alike, in states that differ in the
announced words alone. -/
theorem runOfStepsIsTraceRun : Obligations.RunOfStepsIsTraceRun := by
  intro ws rest s
  change core.run ws.length (s.withTrace (ws ++ rest)) = runTrace ws (s.withTrace rest)
  induction ws generalizing s with
  | nil => rfl
  | cons w ws ih =>
    have hstep : core.step (s.withTrace (w :: (ws ++ rest))) = exec (decodeCmd w) (s.withTrace (ws ++ rest)) :=
      step_withTrace_cons w (ws ++ rest) s
    by_cases hv : s.cfg.Valid
    · have hedge : ∀ tr, exec (decodeCmd w) (s.withTrace tr) = .next ((wordEdge w s).withTrace tr) :=
        fun tr => exec_decodeCmd_withTrace hv tr w
      have hsteps : core.run (ws.length + 1) (s.withTrace (w :: (ws ++ rest))) =
          runTrace ws ((wordEdge w s).withTrace rest) :=
        (run_succ_of_next (hstep.trans (hedge _)) _).trans (ih (wordEdge w s))
      exact hsteps.trans (runTrace_cons_of_exec (hedge rest)).symm
    · have hrefused : ∀ tr, exec (decodeCmd w) (s.withTrace tr) = .refused .buildOutOfRange :=
        fun tr => exec_decodeCmd_of_not_valid (s := s.withTrace tr) hv w
      have htrace : runTrace (w :: ws) (s.withTrace rest) = .refused .buildOutOfRange := by rw [runTrace, hrefused]
      exact (run_succ_of_refused (hstep.trans (hrefused _)) _).trans htrace.symm

end Sys2Proof.Machine
end
